-- ==== Sys2Proof/Word.lean ====
section
/-! DEFINITION. The word types of the block (spec/00_scope.md R6, R9): bytes, samples, timestamps.
All values of the block are unsigned (R9). -/

namespace Sys2Proof

/-- A byte of the wire: 8 bits (R6, R100). -/
abbrev Byte := BitVec 8

/-- `UInt16`: a sample (R13, R33). -/
abbrev U16 := BitVec 16

/-- `UInt32`: a timestamp or a TMR reading (R34, R63). -/
abbrev U32 := BitVec 32

end Sys2Proof
end

