-- ==== Sys2Proof/Machine/Adc.lean ====
section
/-! DEFINITION. The converter's fields (spec/10_state.md R40 to R60) and the per-channel store `SMP[c]`. -/

namespace Sys2Proof.Machine

/-- A store of one natural per channel (R51), as (channel, value) pairs in ONE canonical form: channels strictly
rising and no pair whose value is what an unlisted channel reads as. Log 7. -/
abbrev ChanMap := List (Nat × Nat)

/-- What channel `c` holds; an unlisted channel reads as 0. Log 7, DESIGN CHOICE. -/
def chanRead : ChanMap → Nat → Nat
  | [], _ => 0
  | (k, w) :: m, c => if k = c then w else chanRead m c

/-- `SMP[c] <- v` (R51), keeping the canonical form. -/
def chanWrite : ChanMap → Nat → Nat → ChanMap
  | [], c, v => if v = 0 then [] else [(c, v)]
  | (k, w) :: m, c, v =>
    if c < k then (if v = 0 then (k, w) :: m else (c, v) :: (k, w) :: m)
    else if c = k then (if v = 0 then m else (c, v) :: m)
    else (k, w) :: chanWrite m c v

/-- The canonical form of a channel store. -/
abbrev chanWf (m : ChanMap) : Prop :=
  m.Pairwise (fun a b => a.1 < b.1) ∧ ∀ p ∈ m, p.2 ≠ 0

/-- Any list of pairs brought into canonical form; a canonical list is unchanged. -/
def chanCanon (m : ChanMap) : ChanMap :=
  m.foldr (fun p acc => chanWrite acc p.1 p.2) []

/-- `PIN_MODE` (R42). -/
inductive PinMode where
  | digital | analog
deriving DecidableEq, Repr, Inhabited

/-- The converter's fields, one per role the source names (R39 to R60). A 1-bit field is a Bool, 1 = true. -/
structure Adc where
  /-- R40: the converter's clock domain is enabled. -/
  clkAdc    : Bool
  /-- R41: the input pin's port clock is enabled. -/
  clkPort   : Bool
  /-- R42 -/
  pinMode   : PinMode
  /-- R43: the pin is disconnected from digital functions. -/
  pinDigOff : Bool
  /-- R44: the prescaler, an opaque value (log 6). -/
  presc     : Nat
  /-- R45: deep power down. -/
  dpd       : Bool
  /-- R46: the regulator is enabled. -/
  regen     : Bool
  /-- R47: a calibration is in progress. -/
  cal       : Bool
  /-- R48: the last calibration's result, an opaque value (log 6). -/
  calFact   : Nat
  /-- R49: continuous mode. -/
  cont      : Bool
  /-- R50: the converter's output resolution, 1..16. -/
  ressel    : Nat
  /-- R51: `SMP[c]`. -/
  smp       : ChanMap
  /-- R52 -/
  seqLen    : Nat
  /-- R53 -/
  seqCh1    : Nat
  /-- R54: an enable is pending. -/
  enReq     : Bool
  /-- R55: a disable is pending. -/
  disReq    : Bool
  /-- R56 -/
  enabled   : Bool
  /-- R57 -/
  rdy       : Bool
  /-- R58: a conversion is in progress. -/
  start     : Bool
  /-- R59: end of conversion. -/
  eoc       : Bool
  /-- R60: the raw result. -/
  dr        : U16
deriving DecidableEq, Repr, Inhabited

/-- The values RESET_POR draws (spec/70_reset_and_hazards.md R300): `seq.t_last` and every converter field. -/
structure PowerUp where
  tLast : U32
  adc   : Adc
deriving DecidableEq, Repr, Inhabited

end Sys2Proof.Machine
end

