-- ==== Sys2Proof/Machine/Flags.lean ====
section
/-! DEFINITION. The converter's status flags (spec/10_state.md R62): the consistency invariant R61, the conditions
under which SEQ's requests break it (spec/60_exceptions.md R261 (b)), the conditions of the polls and the enabling
conditions of the ADC's steps (spec/40_sampling_driver.md R134 to R163). -/

namespace Sys2Proof.Machine

/-- The consistency invariant (R61 (a) to (d)). -/
def Adc.consistent (a : Adc) : Bool :=
  (!a.rdy || a.enabled) && (!a.start || a.enabled) && (!a.enabled || (!a.dpd && a.regen)) && (!a.cal || !a.enabled)

/-- R61 together with the ranges of the fields: `RESSEL` in 1..16 (R50), `SMP` in canonical form (log 7). -/
abbrev Adc.legal (a : Adc) : Prop :=
  a.consistent = true ∧ 1 ≤ a.ressel ∧ a.ressel ≤ 16 ∧ chanWf a.smp

/-- A converter state with `RESSEL` (R50) and `SMP` (log 7) brought into their ranges. -/
def Adc.ranged (a : Adc) : Adc :=
  { a with
    ressel := if 1 ≤ a.ressel ∧ a.ressel ≤ 16 then a.ressel else 12
    smp := chanCanon a.smp }

/-- A drawn converter state restricted to the legal ones (R39: the draw ranges only over states that satisfy R61).
A legal draw is unchanged, so every legal state is drawn. Log 2. -/
def Adc.legalise (a : Adc) : Adc :=
  if a.ranged.consistent then a.ranged
  else { a.ranged with enabled := false, rdy := false, start := false }

/-- "already enabled from a prior run" (R134): an enable still pending counts. -/
def Adc.inUse (a : Adc) : Bool := a.enabled || a.enReq

/-- The poll of INIT_DIS_WAIT (R135). -/
def Adc.disableDone (a : Adc) : Bool := !a.enabled && !a.disReq

/-- INIT_CAL would break R61 (d) (R138). -/
def Adc.calForbidden (a : Adc) : Bool := a.enabled

/-- The poll of INIT_CAL_WAIT (R139). -/
def Adc.calDone (a : Adc) : Bool := !a.cal

/-- INIT_EN would break R61 (R143). -/
def Adc.enableForbidden (a : Adc) : Bool := a.cal || a.enabled

/-- The poll of INIT_RDY_WAIT (R144). -/
def Adc.isReady (a : Adc) : Bool := a.rdy

/-- CONV_START would break R61 (b) (R152). -/
def Adc.startForbidden (a : Adc) : Bool := !a.enabled || !a.rdy

/-- The poll of CONV_WAIT (R153). -/
def Adc.convDone (a : Adc) : Bool := a.eoc

/-- ADC_DIS_DONE is enabled (R160). -/
def Adc.canDisable (a : Adc) : Bool := a.disReq

/-- ADC_CAL_DONE is enabled (R161). -/
def Adc.canCalibrate (a : Adc) : Bool := a.cal

/-- ADC_READY is enabled (R162). -/
def Adc.canReady (a : Adc) : Bool := a.enReq && !a.disReq && !a.cal && !a.dpd && a.regen

/-- ADC_CONV_DONE is enabled (R163). -/
def Adc.canConvert (a : Adc) : Bool := a.start && a.enabled

end Sys2Proof.Machine
end

