-- ==== Sys2Proof/Machine/Operands.lean ====
section
/-! DEFINITION. The operand forms: the byte fields of samples and timestamps (spec/20_memory.md R80,
spec/30_encoding.md R101, R102), the resolution mask (R9, R154) and the conversion to seconds (R102). -/

namespace Sys2Proof.Machine

/-- The marker byte `SYNC` (spec/00_scope.md R6). -/
def marker : Byte := 0xAA

/-- `v[7:0]` of a sample. -/
def sampleLo (v : U16) : Byte := v.extractLsb' 0 8

/-- `v[15:8]` of a sample. -/
def sampleHi (v : U16) : Byte := v.extractLsb' 8 8

/-- `zext_16(b)` (R206). -/
def sampleFromLo (b : Byte) : U16 := b.setWidth 16

/-- `v[15:8] <- b` (R207). -/
def sampleSetHi (v : U16) (b : Byte) : U16 := b ++ v.extractLsb' 0 8

/-- `ts[7:0]` (R186). -/
def stampByte0 (t : U32) : Byte := t.extractLsb' 0 8

/-- `ts[15:8]` (R187). -/
def stampByte1 (t : U32) : Byte := t.extractLsb' 8 8

/-- `ts[23:16]` (R188). -/
def stampByte2 (t : U32) : Byte := t.extractLsb' 16 8

/-- `ts[31:24]` (R189). -/
def stampByte3 (t : U32) : Byte := t.extractLsb' 24 8

/-- `zext_32(b)` (R208). -/
def stampFromByte0 (b : Byte) : U32 := b.setWidth 32

/-- `t[15:8] <- b` (R209). -/
def stampSetByte1 (t : U32) (b : Byte) : U32 := t.extractLsb' 16 16 ++ b ++ t.extractLsb' 0 8

/-- `t[23:16] <- b` (R210). -/
def stampSetByte2 (t : U32) (b : Byte) : U32 := t.extractLsb' 24 8 ++ b ++ t.extractLsb' 0 16

/-- `t[31:24] <- b` (R211). -/
def stampSetByte3 (t : U32) (b : Byte) : U32 := b ++ t.extractLsb' 0 24

/-- `mask(k) = 2^k - 1` (R9), as a 16-bit value. -/
def resMask (k : Nat) : U16 := BitVec.ofNat 16 (2 ^ k - 1)

/-- `DR & mask(RES)` (R154). -/
def maskSample (res : Nat) (dr : U16) : U16 := dr &&& resMask res

/-- A timestamp in seconds, exactly: `ts / 1000000` (R102, R235). -/
def stampSeconds (t : U32) : Rat := (t.toNat : Rat) / 1000000

end Sys2Proof.Machine
end

