-- ==== Sys2Proof/Syntax.lean ====
section
/-! DEFINITION. The steps of the block as syntax: one constructor per row of spec/opcode_table.json
(spec/00_scope.md R3), the code words that select them (spec/30_encoding.md R105 to R110), and the names
of agents and environment events (spec/10_state.md R30). -/

namespace Sys2Proof

/-- A code word of one of the four formats of spec/30_encoding.md. -/
inductive Code where
  /-- Format SEQ: the 8-bit sequencer state (R105). -/
  | seq (c : BitVec 8)
  /-- Format TOK: the 12-bit token `sync.st ++ byte` (R107). -/
  | tok (t : BitVec 12)
  /-- Format SYNC_INT: the 4-bit state of a SYNC step that consumes no byte (R109). -/
  | syncInt (c : BitVec 4)
  /-- Format EVT: the 8-bit code of an environment event (R110). -/
  | evt (c : BitVec 8)
deriving DecidableEq, Repr, Inhabited

/-- The six agents (R30). -/
inductive Agent where
  | seq | adc | tmr | link | sync | host
deriving DecidableEq, Repr, Inhabited

/-- The environment events (R110). -/
inductive Event where
  | adcDisDone | adcCalDone | adcReady | adcConvDone
  | linkDeliver | linkDrop | linkCorrupt | linkInsert | linkClose
  | hostStop | resetPor | resetWarm | sessionStart
deriving DecidableEq, Repr, Inhabited

/-- Which step is taken next (R11: any enabled step of any agent may be): SEQ's, SYNC's, or one
environment event. The model's own type (log 1). -/
inductive Pick where
  | seq
  | sync
  | evt (e : Event)
deriving DecidableEq, Repr, Inhabited

/-- The steps of the block, one constructor per row of the opcode table. A token's constructor carries the
byte it consumes where the row leaves it open, and `eosEnd` the three state bits its row leaves open. -/
inductive Instr where
  -- format SEQ, spec/40_sampling_driver.md
  | initClk | initPin | initPresc | initDisChk | initDisWait | initPwr | initSettle
  | initCal | initCalWait | initMode | initSmp | initSeqlen | initEn | initRdyWait
  | convSel | convClr | convStart | convWait | convRead
  -- format SEQ, spec/41_frame_encoder.md
  | txSync0 | txSync1 | txLo | txHi | txTs0 | txTs1 | txTs2 | txTs3 | txEnd | delay
  -- format TOK, spec/42_frame_synchronizer.md
  | seek1Sync
  | seek1Discard (b : Byte)
  | seek2Sync
  | seek2Miss (b : Byte)
  | rs0Lo (b : Byte)
  | rs1Hi (b : Byte)
  | rt0B0 (b : Byte)
  | rt1B1 (b : Byte)
  | rt2B2 (b : Byte)
  | rt3B3 (b : Byte)
  -- format SYNC_INT, spec/42_frame_synchronizer.md and spec/43_history_rate.md
  | emit
  | eosEnd (st : BitVec 3)
  | ended
  -- format EVT, spec/40_sampling_driver.md, spec/42_frame_synchronizer.md, spec/70_reset_and_hazards.md
  | adcDisDone | adcCalDone | adcReady | adcConvDone
  | linkDeliver | linkDrop | linkCorrupt | linkInsert | linkClose
  | hostStop | resetPor | resetWarm | sessionStart
deriving DecidableEq, Repr, Inhabited

/-- The agent whose step an instruction is (R3, R30, and the agent column of R110). The three start events
carry the agent whose state they set: the two device resets SEQ, the session start HOST. -/
def Instr.agent : Instr → Agent
  | .initClk | .initPin | .initPresc | .initDisChk | .initDisWait | .initPwr | .initSettle
  | .initCal | .initCalWait | .initMode | .initSmp | .initSeqlen | .initEn | .initRdyWait
  | .convSel | .convClr | .convStart | .convWait | .convRead
  | .txSync0 | .txSync1 | .txLo | .txHi | .txTs0 | .txTs1 | .txTs2 | .txTs3 | .txEnd | .delay => .seq
  | .seek1Sync | .seek1Discard _ | .seek2Sync | .seek2Miss _ | .rs0Lo _ | .rs1Hi _
  | .rt0B0 _ | .rt1B1 _ | .rt2B2 _ | .rt3B3 _ | .emit | .eosEnd _ | .ended => .sync
  | .adcDisDone | .adcCalDone | .adcReady | .adcConvDone => .adc
  | .linkDeliver | .linkDrop | .linkCorrupt | .linkInsert | .linkClose => .link
  | .hostStop | .sessionStart => .host
  | .resetPor | .resetWarm => .seq

end Sys2Proof
end

