-- ==== Sys2Proof/WellFormed.lean ====
section
/-! DEFINITION. Which instructions are well formed: the two token rows that stand for "any other byte"
(spec/30_encoding.md R108, priority 1) do not hold the marker byte. -/

namespace Sys2Proof

/-- A well-formed instruction: every operand is one its row of the table admits (R108). -/
def WellFormed : Instr → Bool
  | .seek1Discard b => b != 0xAA#8
  | .seek2Miss b => b != 0xAA#8
  | _ => true

end Sys2Proof
end

