-- ==== Sys2Proof/Decode.lean ====
section
/-! DEFINITION. Decoding of the four code spaces of spec/30_encoding.md (R105, R107 to R110), written as the
spec's own tables, total on every code word and rejecting by name; the encoder; and the reading of an
opcode-table word. -/

namespace Sys2Proof

/-- Why a code word is no instruction. -/
inductive Reject where
  /-- One of the 227 unassigned SEQ codes (R105, R111 (c)). -/
  | noSeqState (c : BitVec 8)
  /-- A token whose state is not one of the byte-consuming states 0 to 7 (R107). -/
  | noTokenState (t : BitVec 12)
  /-- A SYNC state code 10 to 15 (R106, R111 (c)). -/
  | noSyncStep (c : BitVec 4)
  /-- An 8-bit code that R110 gives no event. -/
  | noEvent (c : BitVec 8)
deriving DecidableEq, Repr

/-- The sequencer-state codes (R105). -/
def seqTable : List (BitVec 8 × Instr) :=
  [ (0x01, .initClk), (0x02, .initPin), (0x03, .initPresc), (0x04, .initDisChk), (0x05, .initDisWait),
    (0x06, .initPwr), (0x07, .initSettle), (0x08, .initCal), (0x09, .initCalWait), (0x0A, .initMode),
    (0x0B, .initSmp), (0x0C, .initSeqlen), (0x0D, .initEn), (0x0E, .initRdyWait) ] ++
  [ (0x10, .convSel), (0x11, .convClr), (0x12, .convStart), (0x13, .convWait), (0x14, .convRead) ] ++
  [ (0x20, .txSync0), (0x21, .txSync1), (0x22, .txLo), (0x23, .txHi), (0x24, .txTs0), (0x25, .txTs1),
    (0x26, .txTs2), (0x27, .txTs3), (0x28, .txEnd), (0x30, .delay) ]

/-- The environment event codes (R110). -/
def evtTable : List (BitVec 8 × Instr) :=
  [ (0x80, .adcDisDone), (0x81, .adcCalDone), (0x82, .adcReady), (0x83, .adcConvDone),
    (0x90, .linkDeliver), (0x91, .linkDrop), (0x92, .linkCorrupt), (0x93, .linkInsert),
    (0x94, .linkClose), (0xA0, .hostStop), (0xA1, .resetPor), (0xA2, .resetWarm), (0xA3, .sessionStart) ]

/-- A row of the token decode table (R108): match, mask and the instruction the consumed byte gives. -/
structure TokRow where
  mtch : BitVec 12
  mask : BitVec 12
  make : Byte → Instr

/-- The token decode table (R108), each state's rows in their order of priority (R107). -/
def tokTable : List TokRow :=
  [ ⟨0x0AA, 0xFFF, fun _ => .seek1Sync⟩,
    ⟨0x000, 0xF00, .seek1Discard⟩,
    ⟨0x1AA, 0xFFF, fun _ => .seek2Sync⟩,
    ⟨0x100, 0xF00, .seek2Miss⟩,
    ⟨0x200, 0xF00, .rs0Lo⟩,
    ⟨0x300, 0xF00, .rs1Hi⟩,
    ⟨0x400, 0xF00, .rt0B0⟩,
    ⟨0x500, 0xF00, .rt1B1⟩,
    ⟨0x600, 0xF00, .rt2B2⟩,
    ⟨0x700, 0xF00, .rt3B3⟩ ]

/-- A row of the table of steps without a byte (R109). -/
structure SyncRow where
  mtch : BitVec 4
  mask : BitVec 4
  make : BitVec 4 → Instr

/-- The steps without a byte (R109). -/
def syncTable : List SyncRow :=
  [ ⟨0x8, 0xF, fun _ => .emit⟩,
    ⟨0x0, 0x8, fun c => .eosEnd (c.extractLsb' 0 3)⟩,
    ⟨0x9, 0xF, fun _ => .ended⟩ ]

/-- Format SEQ (R105). -/
def decodeSeq (c : BitVec 8) : Except Reject Instr :=
  match seqTable.find? (fun r => r.1 == c) with
  | some r => .ok r.2
  | none => .error (.noSeqState c)

/-- Format TOK (R107): the first row whose `(tok & mask) = match`. -/
def decodeTok (t : BitVec 12) : Except Reject Instr :=
  match tokTable.find? (fun r => t &&& r.mask == r.mtch) with
  | some r => .ok (r.make (t.extractLsb' 0 8))
  | none => .error (.noTokenState t)

/-- Format SYNC_INT (R109). -/
def decodeSyncInt (c : BitVec 4) : Except Reject Instr :=
  match syncTable.find? (fun r => c &&& r.mask == r.mtch) with
  | some r => .ok (r.make c)
  | none => .error (.noSyncStep c)

/-- Format EVT (R110). -/
def decodeEvt (c : BitVec 8) : Except Reject Instr :=
  match evtTable.find? (fun r => r.1 == c) with
  | some r => .ok r.2
  | none => .error (.noEvent c)

/-- The instruction a code word stands for. -/
def decode : Code → Except Reject Instr
  | .seq c => decodeSeq c
  | .tok t => decodeTok t
  | .syncInt c => decodeSyncInt c
  | .evt c => decodeEvt c

/-- The code of an event (R110). -/
def Event.code : Event → BitVec 8
  | .adcDisDone => 0x80
  | .adcCalDone => 0x81
  | .adcReady => 0x82
  | .adcConvDone => 0x83
  | .linkDeliver => 0x90
  | .linkDrop => 0x91
  | .linkCorrupt => 0x92
  | .linkInsert => 0x93
  | .linkClose => 0x94
  | .hostStop => 0xA0
  | .resetPor => 0xA1
  | .resetWarm => 0xA2
  | .sessionStart => 0xA3

/-- The event with a given code, if any (R110). -/
def eventOfCode (c : BitVec 8) : Option Event :=
  [Event.adcDisDone, .adcCalDone, .adcReady, .adcConvDone, .linkDeliver, .linkDrop, .linkCorrupt,
   .linkInsert, .linkClose, .hostStop, .resetPor, .resetWarm, .sessionStart].find? (fun e => e.code == c)

/-- The token of a byte-consuming step: state bits [11:8], byte bits [7:0] (R107). -/
def tokenOf (st : BitVec 4) (b : Byte) : BitVec 12 := st ++ b

/-- The code word of an instruction, written from the tables of R105 and R108 to R110. -/
def encode : Instr → Code
  | .initClk => .seq 0x01
  | .initPin => .seq 0x02
  | .initPresc => .seq 0x03
  | .initDisChk => .seq 0x04
  | .initDisWait => .seq 0x05
  | .initPwr => .seq 0x06
  | .initSettle => .seq 0x07
  | .initCal => .seq 0x08
  | .initCalWait => .seq 0x09
  | .initMode => .seq 0x0A
  | .initSmp => .seq 0x0B
  | .initSeqlen => .seq 0x0C
  | .initEn => .seq 0x0D
  | .initRdyWait => .seq 0x0E
  | .convSel => .seq 0x10
  | .convClr => .seq 0x11
  | .convStart => .seq 0x12
  | .convWait => .seq 0x13
  | .convRead => .seq 0x14
  | .txSync0 => .seq 0x20
  | .txSync1 => .seq 0x21
  | .txLo => .seq 0x22
  | .txHi => .seq 0x23
  | .txTs0 => .seq 0x24
  | .txTs1 => .seq 0x25
  | .txTs2 => .seq 0x26
  | .txTs3 => .seq 0x27
  | .txEnd => .seq 0x28
  | .delay => .seq 0x30
  | .seek1Sync => .tok 0x0AA
  | .seek1Discard b => .tok (tokenOf 0 b)
  | .seek2Sync => .tok 0x1AA
  | .seek2Miss b => .tok (tokenOf 1 b)
  | .rs0Lo b => .tok (tokenOf 2 b)
  | .rs1Hi b => .tok (tokenOf 3 b)
  | .rt0B0 b => .tok (tokenOf 4 b)
  | .rt1B1 b => .tok (tokenOf 5 b)
  | .rt2B2 b => .tok (tokenOf 6 b)
  | .rt3B3 b => .tok (tokenOf 7 b)
  | .emit => .syncInt 0x8
  | .eosEnd st => .syncInt (0#1 ++ st)
  | .ended => .syncInt 0x9
  | .adcDisDone => .evt 0x80
  | .adcCalDone => .evt 0x81
  | .adcReady => .evt 0x82
  | .adcConvDone => .evt 0x83
  | .linkDeliver => .evt 0x90
  | .linkDrop => .evt 0x91
  | .linkCorrupt => .evt 0x92
  | .linkInsert => .evt 0x93
  | .linkClose => .evt 0x94
  | .hostStop => .evt 0xA0
  | .resetPor => .evt 0xA1
  | .resetWarm => .evt 0xA2
  | .sessionStart => .evt 0xA3

/-- The code word that an opcode-table word of `nbits` bits is. A word of more than 8 bits is a token. A word
of at most 4 bits is a SYNC_INT step. A word of 5 to 8 bits is an event or a sequencer state where one has
that code, else a SYNC_INT step where it fits in 4 bits and one has that code, else a sequencer state that is
refused. So `0x08` and `0x09` in 8 bits are INIT_CAL and INIT_CAL_WAIT, not the SYNC_INT steps EMIT and ENDED
whose 4-bit codes are the same numbers. DESIGN CHOICE, safe: log 16. -/
def tableCode (nbits w : Nat) : Option Code :=
  if 8 < nbits then
    if w < 4096 then some (.tok (BitVec.ofNat 12 w)) else none
  else if nbits ≤ 4 then
    if w < 16 then some (.syncInt (BitVec.ofNat 4 w)) else none
  else if 256 ≤ w then none
  else if (eventOfCode (BitVec.ofNat 8 w)).isSome then some (.evt (BitVec.ofNat 8 w))
  else if (seqTable.find? (fun r => r.1 == BitVec.ofNat 8 w)).isSome then some (.seq (BitVec.ofNat 8 w))
  else if w < 8 then some (.syncInt (BitVec.ofNat 4 w))
  else some (.seq (BitVec.ofNat 8 w))

/-- The instruction this decoder reads from an opcode-table word of `nbits` bits. -/
def decodeTableWord (nbits w : Nat) : Option Instr :=
  match tableCode nbits w with
  | some c => (decode c).toOption
  | none => none

end Sys2Proof
end

