-- ==== Sys2Proof/Config.lean ====
section
/-! DEFINITION. The configuration (spec/00_scope.md R7, R8) and the free values: constants without a body, so that
nothing in Lean can know their values. -/

namespace Sys2Proof

/-- `XUNIT` (R7). -/
inductive XUnit where
  | index | time
deriving DecidableEq, Repr, Inhabited

/-- The named parameters of R7. `PRESC_SEL` and `SMP_SEL` are opaque values (log 6); the four durations are counted
in one common unit (log 8). -/
structure Config where
  /-- `RES` -/
  res      : Nat
  /-- `ADC_CH` -/
  adcCh    : Nat
  /-- `PRESC_SEL` -/
  prescSel : Nat
  /-- `SMP_SEL` -/
  smpSel   : Nat
  /-- `T_SETTLE` -/
  tSettle  : Nat
  /-- `T_REG_MIN` -/
  tRegMin  : Nat
  /-- `T_DELAY` -/
  tDelay   : Nat
  /-- `T_CONV_MIN` -/
  tConvMin : Nat
  /-- `TS_DEV` -/
  tsDev    : Bool
  /-- `TS_HOST` -/
  tsHost   : Bool
  /-- `BAUD`, positive; no rule uses it. -/
  baud     : PNat
  /-- `HIST_N` -/
  histN    : Nat
  /-- `RATE_M` -/
  rateM    : Nat
  /-- `XUNIT` -/
  xunit    : XUnit
  /-- `FS` -/
  fs       : Rat
deriving DecidableEq, Repr

/-- The clauses of R8, for the info of BAD_CONFIG (spec/60_exceptions.md R262 (a)). -/
inductive Clause where
  /-- `1 <= RES` -/
  | resLow
  /-- `RES <= 16` -/
  | resHigh
  /-- `HIST_N >= 1` -/
  | histN
  /-- `RATE_M >= 1` -/
  | rateM
  /-- `FS > 0` -/
  | fs
  /-- `T_SETTLE >= T_REG_MIN` -/
  | settle
  /-- `T_DELAY >= T_CONV_MIN` -/
  | delay
deriving DecidableEq, Repr

/-- A well-formed configuration (R8). -/
abbrev Config.Wf (c : Config) : Prop :=
  1 ≤ c.res ∧ c.res ≤ 16 ∧ 1 ≤ c.histN ∧ 1 ≤ c.rateM ∧ 0 < c.fs ∧ c.tRegMin ≤ c.tSettle ∧ c.tConvMin ≤ c.tDelay

/-- The configuration of `State.reset`. RES is the spec's reference value (R6, R7); TS_DEV, TS_HOST, XUNIT, HIST_N,
RATE_M and FS are those of spec/95_test_vectors.md; every other value is the model's. DESIGN CHOICE, unsafe: log 4. -/
def Config.reference : Config :=
  { res := 12, adcCh := 5, prescSel := 0, smpSel := 0
    tSettle := 0, tRegMin := 0, tDelay := 0, tConvMin := 0
    tsDev := false, tsHost := false, baud := 1
    histN := 3, rateM := 2, xunit := .index, fs := 100 }

/-! The free values (R10 `Draw`), each applied to the counter `env.tick`. Logs 1 and 2. -/

/-- Which agent moves next (R11), when the state's list of picks is empty. -/
opaque Config.freePick : Nat → Pick

/-- The power-up draw of RESET_POR (R300), before it is restricted to R61. -/
opaque Config.freePowerUp : Nat → Machine.PowerUp

/-- The calibration result (R161). -/
opaque Config.freeCal : Nat → Nat

/-- The analog input oracle: the conversion result for a channel (R163). -/
opaque Config.freeAnalog : Nat → Nat → U16

/-- The TMR reading (R63). -/
opaque Config.freeTmr : Nat → U32

/-- The byte LINK_CORRUPT or LINK_INSERT delivers (R217, R218). -/
opaque Config.freeByte : Nat → Byte

/-- The wall-clock interval (R235), before it is restricted to non-negative values. -/
opaque Config.freeWall : Nat → Rat

end Sys2Proof
end

