-- ==== Sys2Proof/Machine/History.lean ====
section
/-! DEFINITION. The operations on the History Buffer and the Rate Estimator as functions on lists
(spec/43_history_rate.md R231 to R238). Index 0 is the oldest entry. -/

namespace Sys2Proof.Machine

/-- `HistPush(s)` (R231): the oldest entry leaves, `some s` becomes the newest. -/
def histPush (ys : List (Option U16)) (s : U16) : List (Option U16) :=
  ys.drop 1 ++ [some s]

/-- The timestamp-driven x-axis (R233): every retained x moves with its entry and falls by `d`; the newest is 0. -/
def xShift (xs : List Rat) (d : Rat) : List Rat :=
  (xs.drop 1).map (fun x => x - d) ++ [0]

/-- `XUpdate(d)` (R232, R233): only with timestamps and a time axis do the x-positions move. -/
def xUpdate (c : Config) (xs : List Rat) (d : Rat) : List Rat :=
  if c.tsHost && c.xunit == .time then xShift xs d else xs

/-- The session-start x-position of index `i` (R236). -/
def xStart (c : Config) (i : Nat) : Rat :=
  match c.xunit, c.tsHost with
  | .index, _ => (i : Rat)
  | .time, false => (i : Rat) / c.fs
  | .time, true => ((i : Rat) - ((c.histN : Rat) - 1)) / c.fs

/-- `RateRecord(d)`'s write: `RBUF[RCUR] <- some d` (R237). -/
def rateRecord (buf : List (Option Rat)) (cur : Nat) (d : Rat) : List (Option Rat) :=
  buf.set cur (some d)

/-- `RateRecord(d)`'s cursor: `RCUR <- (RCUR + 1) mod M` (R237). -/
def rateNext (c : Config) (cur : Nat) : Nat := (cur + 1) % c.rateM

/-- The recorded intervals: the non-sentinel entries (R238). -/
def rateEntries (buf : List (Option Rat)) : List Rat := buf.filterMap id

/-- The sum of the recorded intervals (R238). -/
def rateSum (buf : List (Option Rat)) : Rat := (rateEntries buf).foldr (fun d acc => d + acc) 0

/-- `Estimate()` (R238): `1 / mean` of the recorded intervals, `none` where it does not exist. -/
def rateEstimate (buf : List (Option Rat)) : Option Rat :=
  if (rateEntries buf).length = 0 ∨ rateSum buf = 0 then none
  else some (((rateEntries buf).length : Rat) / rateSum buf)

end Sys2Proof.Machine
end

