-- ==== Sys2Proof/Machine/State.lean ====
section
/-! DEFINITION. The state of the whole block as plain data (spec/10_state.md R30 to R78), the reasons a step can
stop, and the state after reset (spec/70_reset_and_hazards.md R300, R303, R304). -/

namespace Sys2Proof.Machine

/-- The fields that can be unwritten (spec/60_exceptions.md R261 (a)). -/
inductive UnwrittenField where
  | seqV | seqTs | accS | accT
deriving DecidableEq, Repr

/-- The two model faults (R261). "Never final" (R11): a step that raises one answers a NEXT state in which nothing
but the fault mark changes; no step ends in a Host fault. Log 9. -/
inductive Fault where
  /-- 0x10: raised by TX_LO, TX_HI, TX_TS0 to TX_TS3 and EMIT, which read a field never written; the info is the
  reading step's code and the field. Recorded in `State.faults`. Safe: the step writes nothing else, as R261 says. -/
  | unwrittenRead (step : Code) (field : UnwrittenField)
  /-- 0x11: raised by INIT_CAL, INIT_EN and CONV_START, whose write would break R61; the info is the SEQ code.
  Recorded in `State.faults`. Safe: the step writes nothing else, as R261 says. -/
  | adcPrecondition (code : BitVec 8)
deriving DecidableEq, Repr

/-- Why a step has no meaning (R262). -/
inductive Refusal where
  /-- 0x20: raised by `step` in a state whose configuration breaks R8; the info is the first clause broken. Safe. -/
  | badConfig (clause : Clause)
  /-- 0x21: raised by `step` in a state whose `seq.pc` or `sync.st` is an unlisted code; the info is the agent and
  the code. Safe. -/
  | badState (agent : Agent) (code : BitVec 8)
  /-- Raised by `step` for a code word that decodes to nothing; `step` only reads code words of listed states and
  events, so no step raises it. Safe. -/
  | noCode (r : Reject)
  /-- Raised by `exec` for an instruction without a meaning; there is none. Safe. -/
  | notModelled (mnemonic : String)
deriving DecidableEq, Repr

/-- The outcome of the step last taken that left a state (R11, R263). The model's own observation: log 12. -/
inductive StepOutcome where
  /-- 0x00: the step wrote its successor. -/
  | next
  /-- 0x01: the agent had no enabled step. -/
  | hold (agent : Agent)
  /-- 0x10, 0x11: a model fault was recorded. -/
  | fault (f : Fault)
deriving DecidableEq, Repr

/-- SEQ's state (R32 to R36). `none` is the spec's "unwritten". -/
structure Seq where
  /-- R32 -/
  pc       : BitVec 8
  /-- R33 -/
  v        : Option U16
  /-- R34 -/
  ts       : Option U32
  /-- R35 -/
  tLast    : U32
  /-- R36 -/
  diagConv : Bool
  /-- R36 -/
  diagTx   : Bool
deriving DecidableEq, Repr

/-- LINK's state (R64, R65). -/
structure Link where
  /-- R64: sent and not yet delivered, dropped or corrupted; the head leaves first. -/
  q      : List Byte
  /-- R65: every byte sent, in order. -/
  sent   : List Byte
  /-- R64 -/
  closed : Bool
deriving DecidableEq, Repr

/-- An EMIT record (R75): the decoded sample, the current x-position, the current rate. -/
structure OutRec where
  sample : U16
  x      : Rat
  rate   : Option Rat
deriving DecidableEq, Repr

/-- SYNC's state with its History Buffer and Rate Estimator (R66 to R75). -/
structure Sync where
  /-- R66 -/
  st    : BitVec 4
  /-- R67 -/
  accS  : Option U16
  /-- R67 -/
  accT  : Option U32
  /-- R68: delivered and not yet consumed; the head is consumed first. -/
  rxq   : List Byte
  /-- R69 -/
  eos   : Bool
  /-- R70 -/
  stop  : Bool
  /-- R71 -/
  histY : List (Option U16)
  /-- R72 -/
  histX : List Rat
  /-- R73 -/
  rbuf  : List (Option Rat)
  /-- R73 -/
  rcur  : Nat
  /-- R74 -/
  rate  : Option Rat
  /-- R75 -/
  out   : List OutRec
deriving DecidableEq, Repr

/-- What the outside of the model will still choose: the schedule (R11) and the values of the draws (R10), as lists
consumed from the front; where a list is empty the free value of Config at `tick` is taken. Logs 1 and 2. -/
structure Env where
  /-- which agent moves next -/
  picks  : List Pick
  /-- RESET_POR's draws (R300) -/
  power  : List PowerUp
  /-- calibration results (R161) -/
  cal    : List Nat
  /-- conversion results (R163) -/
  analog : List U16
  /-- TMR readings (R63) -/
  tmr    : List U32
  /-- bytes corrupted or inserted by the link (R217, R218) -/
  noise  : List Byte
  /-- wall-clock intervals (R235) -/
  wall   : List Rat
  /-- counts the picks and draws taken, so that each free value is a fresh one -/
  tick   : Nat
deriving DecidableEq, Repr

/-- The state of the whole block. -/
structure State where
  /-- The configuration (spec/00_scope.md R7); no step writes it. Log 3. -/
  cfg     : Config
  seq     : Seq
  adc     : Adc
  link    : Link
  sync    : Sync
  env     : Env
  /-- Whether the first RESET_POR of the run has happened (R300). Log 13. -/
  started : Bool
  /-- The fault mark (spec/60_exceptions.md R261): every fault raised, oldest first; no step clears it. -/
  faults  : List Fault
  /-- The outcome of the last step. Log 12. -/
  last    : StepOutcome
deriving DecidableEq, Repr

/-- What a meaning answers. -/
abbrev Result := Host.Outcome State Fault Refusal

/-- SYNC right after SESSION_START (R302). -/
def Sync.sessionStart (c : Config) : Sync :=
  { st := 0, accS := none, accT := none, rxq := [], eos := false, stop := false
    histY := List.replicate c.histN none
    histX := (List.range c.histN).map (xStart c)
    rbuf := List.replicate c.rateM none
    rcur := 0, rate := none, out := [] }

/-- SYNC before the first session of a run (R303). -/
def Sync.preSession (c : Config) : Sync :=
  { Sync.sessionStart c with st := 9 }

/-- The converter right after reset. The spec gives a draw under R61: every value here is the model's, zero where
zero is legal. DESIGN CHOICE, unsafe: log 5. -/
def Adc.reset : Adc :=
  { clkAdc := false, clkPort := false, pinMode := .digital, pinDigOff := false, presc := 0
    dpd := false, regen := false, cal := false, calFact := 0, cont := false, ressel := 12
    smp := [], seqLen := 0, seqCh1 := 0, enReq := false, disReq := false, enabled := false
    rdy := false, start := false, eoc := false, dr := 0 }

/-- SEQ right after RESET_POR (R300); `tLast` is the model's value for the draw. DESIGN CHOICE, unsafe: log 5. -/
def Seq.reset : Seq :=
  { pc := 0x01, v := none, ts := none, tLast := 0, diagConv := false, diagTx := false }

/-- Nothing is chosen yet: every pick and draw is a free value. -/
def Env.reset : Env :=
  { picks := [], power := [], cal := [], analog := [], tmr := [], noise := [], wall := [], tick := 0 }

/-- The initial state of a run (R304): the state after the first RESET_POR, SYNC in its pre-session state. -/
def State.reset : State :=
  { cfg := Config.reference
    seq := Seq.reset
    adc := Adc.reset
    link := { q := [], sent := [], closed := false }
    sync := Sync.preSession Config.reference
    env := Env.reset
    started := true
    faults := []
    last := .next }

end Sys2Proof.Machine
end

