-- ==== Sys2Proof/Machine/Ops.lean ====
section
/-! DEFINITION. The named operations of the steps: ways a step ends, writes of one agent's state, `Send` and `Recv`
(spec/00_scope.md R10), the draws, the refused states (spec/60_exceptions.md R262), and the reading of the next code
word (spec/42_frame_synchronizer.md R201). The block takes no exceptions (R260, R271): `raise` is all there is. -/

namespace Sys2Proof.Machine

/-! Ways a step ends (R11). -/

/-- NEXT: the step wrote its successor (R263, 0x00). A poll that stays also ends so (R12). -/
def done (s : State) : Result := .next { s with last := .next }

/-- HOLD: agent `a` has no enabled step; nothing changes (R11, R263, 0x01). Log 11. -/
def hold (a : Agent) (s : State) : Result := .next { s with last := .hold a }

/-- `raise`: the step writes nothing and the fault is recorded in the fault mark, which no step clears (R261).
Log 9. -/
def raise (f : Fault) (s : State) : Result := .next { s with faults := s.faults ++ [f], last := .fault f }

/-! Writes of one agent's state. -/

/-- Writes SEQ's registers. -/
def State.withSeq (s : State) (q : Seq) : State := { s with seq := q }

/-- Writes converter fields (`Reg(F) <- v`, R10). -/
def State.withAdc (s : State) (a : Adc) : State := { s with adc := a }

/-- Writes LINK's state. -/
def State.withLink (s : State) (l : Link) : State := { s with link := l }

/-- Writes SYNC's state. -/
def State.withSync (s : State) (y : Sync) : State := { s with sync := y }

/-- Writes the outside's remaining choices. -/
def State.withEnv (s : State) (e : Env) : State := { s with env := e }

/-- `pc <- target` (R10). -/
def State.goto (s : State) (c : BitVec 8) : State := s.withSeq { s.seq with pc := c }

/-- `st <- state` (R202 to R213). -/
def State.enter (s : State) (st : BitVec 4) : State := s.withSync { s.sync with st := st }

/-- `Send(b)`: append to the link's queue and to its log, in one action (spec/41_frame_encoder.md, R64, R65). -/
def State.send (s : State) (b : Byte) : State :=
  s.withLink { s.link with q := s.link.q ++ [b], sent := s.link.sent ++ [b] }

/-- `Recv()`: remove the head of `sync.rxq` (R68); the byte itself is the token's operand.
Log 15. -/
def State.recv (s : State) : State := s.withSync { s.sync with rxq := s.sync.rxq.tail }

/-- LINK delivers a byte: it becomes the newest of `sync.rxq` (R68, R215). -/
def State.receive (s : State) (b : Byte) : State :=
  s.withSync { s.sync with rxq := s.sync.rxq ++ [b] }

/-- The head of `link.q` leaves (R215 to R217). -/
def State.unqueue (s : State) : State := s.withLink { s.link with q := s.link.q.tail }

/-! Draws (R10): the value, and the state after it is taken. Log 2. -/

/-- `Draw` of RESET_POR (R300), restricted to R61 (R39). -/
def State.powerUp (s : State) : PowerUp :=
  let p := s.env.power.headD (Config.freePowerUp s.env.tick)
  { p with adc := p.adc.legalise }

/-- After the power-up draw. -/
def State.afterPowerUp (s : State) : State :=
  s.withEnv { s.env with power := s.env.power.tail, tick := s.env.tick + 1 }

/-- `Draw(CalFact)` (R161). -/
def State.calDraw (s : State) : Nat := s.env.cal.headD (Config.freeCal s.env.tick)

/-- After the calibration draw. -/
def State.afterCal (s : State) : State :=
  s.withEnv { s.env with cal := s.env.cal.tail, tick := s.env.tick + 1 }

/-- The analog input oracle for channel `SEQ_CH1` (R163). -/
def State.analogDraw (s : State) : U16 :=
  s.env.analog.headD (Config.freeAnalog s.adc.seqCh1 s.env.tick)

/-- After the analog draw. -/
def State.afterAnalog (s : State) : State :=
  s.withEnv { s.env with analog := s.env.analog.tail, tick := s.env.tick + 1 }

/-- `TmrRead()` (R63). -/
def State.tmrRead (s : State) : U32 := s.env.tmr.headD (Config.freeTmr s.env.tick)

/-- After a TMR reading. -/
def State.afterTmr (s : State) : State :=
  s.withEnv { s.env with tmr := s.env.tmr.tail, tick := s.env.tick + 1 }

/-- `Draw(UInt8)` of the link (R217, R218). -/
def State.noiseDraw (s : State) : Byte := s.env.noise.headD (Config.freeByte s.env.tick)

/-- After a link byte draw. -/
def State.afterNoise (s : State) : State :=
  s.withEnv { s.env with noise := s.env.noise.tail, tick := s.env.tick + 1 }

/-- A drawn rational restricted to the non-negative ones (R10: `WallElapsed()` is non-negative). -/
def nonNegative (d : Rat) : Rat := if 0 ≤ d then d else 0

/-- `WallElapsed()` (R235). -/
def State.wallElapsed (s : State) : Rat := nonNegative (s.env.wall.headD (Config.freeWall s.env.tick))

/-- After a wall-clock draw. -/
def State.afterWall (s : State) : State :=
  s.withEnv { s.env with wall := s.env.wall.tail, tick := s.env.tick + 1 }

/-- Which agent moves next (R11): the first pick of the schedule, or a free value. Log 1. -/
def State.pick (s : State) : Pick := s.env.picks.headD (Config.freePick s.env.tick)

/-- After the pick is taken. -/
def State.afterPick (s : State) : State :=
  s.withEnv { s.env with picks := s.env.picks.tail, tick := s.env.tick + 1 }

/-! States outside the model (R262). -/

/-- The first clause of R8 that a configuration breaks. -/
def brokenClause (c : Config) : Option Clause :=
  if ¬ 1 ≤ c.res then some .resLow
  else if ¬ c.res ≤ 16 then some .resHigh
  else if ¬ 1 ≤ c.histN then some .histN
  else if ¬ 1 ≤ c.rateM then some .rateM
  else if ¬ 0 < c.fs then some .fs
  else if ¬ c.tRegMin ≤ c.tSettle then some .settle
  else if ¬ c.tConvMin ≤ c.tDelay then some .delay
  else none

/-- A listed sequencer state (R105). -/
def listedPc (c : BitVec 8) : Bool := (seqTable.find? (fun r => r.1 == c)).isSome

/-- A listed SYNC state (R106). -/
def listedSt (c : BitVec 4) : Bool := c.ult 10

/-- Why a state is outside the model, if it is (R262 (a), (b), R111 (c)). Log 10. -/
def State.outside (s : State) : Option Refusal :=
  match brokenClause s.cfg with
  | some c => some (.badConfig c)
  | none =>
    if listedPc s.seq.pc = false then some (.badState .seq s.seq.pc)
    else if listedSt s.sync.st = false then some (.badState .sync (s.sync.st.setWidth 8))
    else none

/-- A pick of the device half (SEQ or ADC), which has no step before the first RESET_POR (R300: it "is the first
device event of every run"). Log 13. -/
def devicePick : Pick → Bool
  | .seq => true
  | .evt .adcDisDone | .evt .adcCalDone | .evt .adcReady | .evt .adcConvDone => true
  | _ => false

/-- The agent a pick moves. Log 18. -/
def pickAgent : Pick → Agent
  | .seq => .seq
  | .sync => .sync
  | .evt .adcDisDone | .evt .adcCalDone | .evt .adcReady | .evt .adcConvDone => .adc
  | .evt .linkDeliver | .evt .linkDrop | .evt .linkCorrupt | .evt .linkInsert | .evt .linkClose => .link
  | .evt .hostStop | .evt .sessionStart => .host
  | .evt .resetPor | .evt .resetWarm => .seq

/-- A byte-consuming SYNC state: bit 3 clear (R106). -/
def consuming (st : BitVec 4) : Bool := st.ult 8

/-- The code word of the step a pick selects. SEQ: `seq.pc` (R32). SYNC: in a byte-consuming state the token of the
head of `sync.rxq`, and with `rxq` empty, or in a state that consumes no byte, the SYNC_INT code `sync.st` (R201);
whether end of stream is enabled is EOS_END's own test. An event: its code (R110). -/
def State.fetch (s : State) : Pick → Code
  | .seq => .seq s.seq.pc
  | .sync =>
    match s.sync.rxq with
    | b :: _ => if consuming s.sync.st then .tok (tokenOf s.sync.st b) else .syncInt s.sync.st
    | [] => .syncInt s.sync.st
  | .evt e => .evt e.code

/-- Puts a code word where the next step fetches it: the selected agent's state (SEQ's `pc`; SYNC's state and the head
of its receive queue; for EOS_END an empty queue and the end of stream), and the pick of that agent. Log 17. -/
def State.place (s : State) : Code → State
  | .seq c => { (s.goto c).withEnv { s.env with picks := .seq :: s.env.picks } with started := true }
  | .tok t =>
    (s.withSync { s.sync with st := t.extractLsb' 8 4, rxq := t.extractLsb' 0 8 :: s.sync.rxq.tail }).withEnv
      { s.env with picks := .sync :: s.env.picks }
  | .syncInt c =>
    (s.withSync (if consuming c then { s.sync with st := c, rxq := [], eos := true } else { s.sync with st := c })).withEnv
      { s.env with picks := .sync :: s.env.picks }
  | .evt c =>
    match eventOfCode c with
    | some e =>
      { s.withEnv { s.env with picks := .evt e :: s.env.picks } with started := s.started || devicePick (.evt e) }
    | none => s

end Sys2Proof.Machine
end

