-- ==== Sys2Proof/Machine/AdcEvents.lean ====
section
/-! DEFINITION. The converter's steps (spec/40_sampling_driver.md R160 to R163). A step whose condition is false is
not enabled: HOLD. -/

namespace Sys2Proof.Machine

/-- ADC_DIS_DONE (R160). -/
def execAdcDisDone (s : State) : Result :=
  if s.adc.canDisable then
    done (s.withAdc { s.adc with enabled := false, rdy := false, start := false, enReq := false, disReq := false })
  else hold .adc s

/-- ADC_CAL_DONE (R161). -/
def execAdcCalDone (s : State) : Result :=
  if s.adc.canCalibrate then
    done (s.afterCal.withAdc { s.adc with calFact := s.calDraw, cal := false })
  else hold .adc s

/-- ADC_READY (R162). -/
def execAdcReady (s : State) : Result :=
  if s.adc.canReady then
    done (s.withAdc { s.adc with enabled := true, rdy := true, enReq := false })
  else hold .adc s

/-- ADC_CONV_DONE (R163). -/
def execAdcConvDone (s : State) : Result :=
  if s.adc.canConvert then
    done (s.afterAnalog.withAdc
      { s.adc with dr := s.analogDraw, eoc := true, start := if s.adc.cont then s.adc.start else false })
  else hold .adc s

end Sys2Proof.Machine
end

