-- ==== Sys2Proof/Machine/Conv.lean ====
section
/-! DEFINITION. The conversion contract: SEQ states 0x10 to 0x14 (spec/40_sampling_driver.md R150 to R156). -/

namespace Sys2Proof.Machine

/-- CONV_SEL (R150). -/
def execConvSel (s : State) : Result :=
  done ((s.withAdc { s.adc with seqCh1 := s.cfg.adcCh }).goto 0x11)

/-- CONV_CLR (R151). -/
def execConvClr (s : State) : Result :=
  done ((s.withAdc { s.adc with eoc := false }).goto 0x12)

/-- CONV_START (R152): the diagnostic pin rises. -/
def execConvStart (s : State) : Result :=
  if s.adc.startForbidden then raise (.adcPrecondition 0x12) s
  else done (((s.withSeq { s.seq with diagConv := true }).withAdc { s.adc with start := true }).goto 0x13)

/-- CONV_WAIT (R153). -/
def execConvWait (s : State) : Result :=
  if s.adc.convDone then done (s.goto 0x14) else done s

/-- CONV_READ (R154): the result masked to the resolution; the diagnostic pin falls. -/
def execConvRead (s : State) : Result :=
  done ((s.withSeq { s.seq with v := some (maskSample s.cfg.res s.adc.dr), diagConv := false }).goto 0x20)

end Sys2Proof.Machine
end

