-- ==== Sys2Proof/Machine/HostEvents.lean ====
section
/-! DEFINITION. The host's stop request (spec/42_frame_synchronizer.md R220) and the three start events
(spec/70_reset_and_hazards.md R300 to R302). -/

namespace Sys2Proof.Machine

/-- HOST_STOP (R220). -/
def execHostStop (s : State) : Result :=
  if s.sync.stop || s.sync.st == 9 then hold .host s
  else done (s.withSync { s.sync with stop := true })

/-- The link as the first RESET_POR of a run leaves it (R300, R78). Log 20. -/
def firstLink : Link := { q := [], sent := [], closed := false }

/-- RESET_POR (R300): SEQ at its entry point, `seq.t_last` and the converter drawn; the link only at the first one of
the run. Logs 2 and 13. -/
def execResetPor (s : State) : Result :=
  let p := s.powerUp
  let s1 := s.afterPowerUp
  let s2 := s1.withSeq { pc := 0x01, v := none, ts := none, tLast := p.tLast, diagConv := false, diagTx := false }
  let s3 := s2.withAdc p.adc
  let s4 := if s.started then s3 else s3.withLink firstLink
  done { s4 with started := true }

/-- RESET_WARM (R301), enabled after the first RESET_POR. -/
def execResetWarm (s : State) : Result :=
  if s.started then
    done (s.withSeq { s.seq with pc := 0x01, diagConv := false, diagTx := false })
  else hold .seq s

/-- SESSION_START (R302). -/
def execSessionStart (s : State) : Result :=
  if s.sync.st == 9 then
    done ((s.withSync (Sync.sessionStart s.cfg)).withLink { s.link with closed := false })
  else hold .host s

end Sys2Proof.Machine
end

