-- ==== Sys2Proof/Machine/Init.lean ====
section
/-! DEFINITION. The initialisation contract: SEQ states 0x01 to 0x0E (spec/40_sampling_driver.md R131 to R144). -/

namespace Sys2Proof.Machine

/-- INIT_CLK (R131). -/
def execInitClk (s : State) : Result :=
  done ((s.withAdc { s.adc with clkAdc := true, clkPort := true }).goto 0x02)

/-- INIT_PIN (R132). -/
def execInitPin (s : State) : Result :=
  done ((s.withAdc { s.adc with pinMode := .analog, pinDigOff := true }).goto 0x03)

/-- INIT_PRESC (R133). -/
def execInitPresc (s : State) : Result :=
  done ((s.withAdc { s.adc with presc := s.cfg.prescSel }).goto 0x04)

/-- INIT_DIS_CHK (R134). -/
def execInitDisChk (s : State) : Result :=
  if s.adc.inUse then done ((s.withAdc { s.adc with disReq := true }).goto 0x05)
  else done (s.goto 0x06)

/-- INIT_DIS_WAIT (R135). -/
def execInitDisWait (s : State) : Result :=
  if s.adc.disableDone then done (s.goto 0x06) else done s

/-- INIT_PWR (R136). -/
def execInitPwr (s : State) : Result :=
  done ((s.withAdc { s.adc with dpd := false, regen := true }).goto 0x07)

/-- INIT_SETTLE (R137): the delay is one step, the model keeps no time. Log 21. -/
def execInitSettle (s : State) : Result :=
  done (s.goto 0x08)

/-- INIT_CAL (R138). -/
def execInitCal (s : State) : Result :=
  if s.adc.calForbidden then raise (.adcPrecondition 0x08) s
  else done ((s.withAdc { s.adc with cal := true }).goto 0x09)

/-- INIT_CAL_WAIT (R139). -/
def execInitCalWait (s : State) : Result :=
  if s.adc.calDone then done (s.goto 0x0A) else done s

/-- INIT_MODE (R140). -/
def execInitMode (s : State) : Result :=
  done ((s.withAdc { s.adc with cont := false, ressel := s.cfg.res }).goto 0x0B)

/-- INIT_SMP (R141). -/
def execInitSmp (s : State) : Result :=
  done ((s.withAdc { s.adc with smp := chanWrite s.adc.smp s.cfg.adcCh s.cfg.smpSel }).goto 0x0C)

/-- INIT_SEQLEN (R142). -/
def execInitSeqlen (s : State) : Result :=
  done ((s.withAdc { s.adc with seqLen := 1 }).goto 0x0D)

/-- INIT_EN (R143). -/
def execInitEn (s : State) : Result :=
  if s.adc.enableForbidden then raise (.adcPrecondition 0x0D) s
  else done ((s.withAdc { s.adc with enReq := true }).goto 0x0E)

/-- INIT_RDY_WAIT (R144). -/
def execInitRdyWait (s : State) : Result :=
  if s.adc.isReady then done (s.goto 0x10) else done s

end Sys2Proof.Machine
end

