-- ==== Sys2Proof/Machine/LinkEvents.lean ====
section
/-! DEFINITION. The link's steps (spec/42_frame_synchronizer.md R215 to R219). A step whose condition is false is not
enabled: HOLD. -/

namespace Sys2Proof.Machine

/-- LINK_DELIVER (R215). -/
def execLinkDeliver (s : State) : Result :=
  match s.link.q with
  | b :: _ => if s.link.closed then hold .link s else done (s.unqueue.receive b)
  | [] => hold .link s

/-- LINK_DROP (R216). -/
def execLinkDrop (s : State) : Result :=
  if s.link.q.isEmpty then hold .link s else done s.unqueue

/-- LINK_CORRUPT (R217). -/
def execLinkCorrupt (s : State) : Result :=
  if s.link.q.isEmpty || s.link.closed then hold .link s
  else done (s.afterNoise.unqueue.receive s.noiseDraw)

/-- LINK_INSERT (R218). -/
def execLinkInsert (s : State) : Result :=
  if s.link.closed then hold .link s
  else done (s.afterNoise.receive s.noiseDraw)

/-- LINK_CLOSE (R219). -/
def execLinkClose (s : State) : Result :=
  if s.link.closed then hold .link s
  else done ((s.withLink { s.link with closed := true }).withSync { s.sync with eos := true })

end Sys2Proof.Machine
end

