-- ==== Sys2Proof/Machine/SyncInt.lean ====
section
/-! DEFINITION. The steps of SYNC that consume no byte: EMIT (spec/43_history_rate.md R230 to R240), EOS_END and ENDED
(spec/42_frame_synchronizer.md R212, R213). -/

namespace Sys2Proof.Machine

/-- Which accumulator EMIT finds unwritten, if any (R230); `acc_t` is read only with TS_HOST. Log 19. -/
def emitUnwritten (s : State) : Option UnwrittenField :=
  if s.sync.accS.isNone then some .accS
  else if s.cfg.tsHost && s.sync.accT.isNone then some .accT
  else none

/-- `Interval()` (R235): the timestamp in seconds with TS_HOST, else the wall-clock draw. -/
def State.interval (s : State) : Rat :=
  if s.cfg.tsHost then stampSeconds (s.sync.accT.getD 0) else s.wallElapsed

/-- After `Interval()`: only without TS_HOST is a draw taken (R235). -/
def State.afterInterval (s : State) : State :=
  if s.cfg.tsHost then s else s.afterWall

/-- SYNC after EMIT of sample `v` with interval `d` (R230): HistPush, XUpdate, RateRecord, Estimate, the record, and
then the stop test. Log 23. -/
def emitted (c : Config) (y : Sync) (v : U16) (d : Rat) : Sync :=
  let xs := xUpdate c y.histX d
  let buf := rateRecord y.rbuf y.rcur d
  let r := rateEstimate buf
  { y with
    histY := histPush y.histY v
    histX := xs
    rbuf := buf
    rcur := rateNext c y.rcur
    rate := r
    out := y.out ++ [{ sample := v, x := xs.getD (c.histN - 1) 0, rate := r }]
    st := if y.stop then 9 else 0 }

/-- EMIT (R230). -/
def execEmit (s : State) : Result :=
  match emitUnwritten s with
  | some f => raise (.unwrittenRead (.syncInt 8) f) s
  | none => done (s.afterInterval.withSync (emitted s.cfg s.sync (s.sync.accS.getD 0) s.interval))

/-- EOS_END is enabled (R212). -/
def State.eosEnabled (s : State) : Bool :=
  consuming s.sync.st && s.sync.rxq.isEmpty && s.sync.eos

/-- EOS_END (R212); where it is not enabled SYNC holds (R201). -/
def execEosEnd (s : State) : Result :=
  if s.eosEnabled then done (s.enter 9) else hold .sync s

/-- ENDED has no step (R213). -/
def execEnded (s : State) : Result := hold .sync s

end Sys2Proof.Machine
end

