-- ==== Sys2Proof/Machine/Token.lean ====
section
/-! DEFINITION. The steps of SYNC that consume a byte (spec/42_frame_synchronizer.md R202 to R211). Each removes the
head of `sync.rxq` (R201) and acts on the consumed byte, its operand. -/

namespace Sys2Proof.Machine

/-- SEEK1_SYNC (R202). -/
def execSeek1Sync (s : State) : Result := done (s.recv.enter 1)

/-- SEEK1_DISCARD (R203): the byte is dropped. -/
def execSeek1Discard (_b : Byte) (s : State) : Result := done (s.recv.enter 0)

/-- SEEK2_SYNC (R204). -/
def execSeek2Sync (s : State) : Result := done (s.recv.enter 2)

/-- SEEK2_MISS (R205): the byte is re-examined as a candidate first marker, in the same step, without being read again. -/
def execSeek2Miss (b : Byte) (s : State) : Result :=
  done (s.recv.enter (if b = marker then 1 else 0))

/-- Writes `sync.acc_s`. -/
def State.putSample (s : State) (v : Option U16) : State := s.withSync { s.sync with accS := v }

/-- Writes `sync.acc_t`. -/
def State.putStamp (s : State) (t : Option U32) : State := s.withSync { s.sync with accT := t }

/-- RS0_LO (R206). -/
def execRs0Lo (b : Byte) (s : State) : Result :=
  done ((s.recv.putSample (some (sampleFromLo b))).enter 3)

/-- RS1_HI (R207). A byte written into an unwritten accumulator leaves it unwritten: log 14. -/
def execRs1Hi (b : Byte) (s : State) : Result :=
  done ((s.recv.putSample (s.sync.accS.map (fun v => sampleSetHi v b))).enter (if s.cfg.tsHost then 4 else 8))

/-- RT0_B0 (R208). -/
def execRt0B0 (b : Byte) (s : State) : Result :=
  done ((s.recv.putStamp (some (stampFromByte0 b))).enter 5)

/-- RT1_B1 (R209). Log 14. -/
def execRt1B1 (b : Byte) (s : State) : Result :=
  done ((s.recv.putStamp (s.sync.accT.map (fun t => stampSetByte1 t b))).enter 6)

/-- RT2_B2 (R210). Log 14. -/
def execRt2B2 (b : Byte) (s : State) : Result :=
  done ((s.recv.putStamp (s.sync.accT.map (fun t => stampSetByte2 t b))).enter 7)

/-- RT3_B3 (R211). Log 14. -/
def execRt3B3 (b : Byte) (s : State) : Result :=
  done ((s.recv.putStamp (s.sync.accT.map (fun t => stampSetByte3 t b))).enter 8)

end Sys2Proof.Machine
end

