-- ==== Sys2Proof/Machine/Tx.lean ====
section
/-! DEFINITION. The frame encoder and the delay: SEQ states 0x20 to 0x28 and 0x30 (spec/41_frame_encoder.md R182 to
R194). -/

namespace Sys2Proof.Machine

/-- The timestamp capture of TX_SYNC0 (R182): the delta since the previous frame began, modulo 2^32. -/
def captureStamp (s : State) : State :=
  (s.withSeq { s.seq with ts := some (s.tmrRead - s.seq.tLast), tLast := s.tmrRead }).afterTmr

/-- TX_SYNC0 (R182). -/
def execTxSync0 (s : State) : Result :=
  let s1 := s.withSeq { s.seq with diagTx := true }
  let s2 := if s.cfg.tsDev then captureStamp s1 else s1
  done ((s2.send marker).goto 0x21)

/-- TX_SYNC1 (R183). -/
def execTxSync1 (s : State) : Result :=
  done ((s.send marker).goto 0x22)

/-- Sends a byte of `seq.v` and goes on, or faults where it is unwritten (R184, R185, R261). -/
def sendSample (field : U16 → Byte) (code succ : BitVec 8) (s : State) : Result :=
  match s.seq.v with
  | some v => done ((s.send (field v)).goto succ)
  | none => raise (.unwrittenRead (.seq code) .seqV) s

/-- Sends a byte of `seq.ts` and goes on, or faults where it is unwritten (R186 to R189, R261). -/
def sendStamp (field : U32 → Byte) (code succ : BitVec 8) (s : State) : Result :=
  match s.seq.ts with
  | some t => done ((s.send (field t)).goto succ)
  | none => raise (.unwrittenRead (.seq code) .seqTs) s

/-- TX_LO (R184). -/
def execTxLo (s : State) : Result := sendSample sampleLo 0x22 0x23 s

/-- TX_HI (R185). -/
def execTxHi (s : State) : Result := sendSample sampleHi 0x23 (if s.cfg.tsDev then 0x24 else 0x28) s

/-- TX_TS0 (R186). -/
def execTxTs0 (s : State) : Result := sendStamp stampByte0 0x24 0x25 s

/-- TX_TS1 (R187). -/
def execTxTs1 (s : State) : Result := sendStamp stampByte1 0x25 0x26 s

/-- TX_TS2 (R188). -/
def execTxTs2 (s : State) : Result := sendStamp stampByte2 0x26 0x27 s

/-- TX_TS3 (R189). -/
def execTxTs3 (s : State) : Result := sendStamp stampByte3 0x27 0x28 s

/-- TX_END (R190): the frame pin falls. -/
def execTxEnd (s : State) : Result :=
  done ((s.withSeq { s.seq with diagTx := false }).goto 0x30)

/-- DELAY (R191): one step, the model keeps no time. -/
def execDelay (s : State) : Result :=
  done (s.goto 0x10)

end Sys2Proof.Machine
end

