-- ==== Sys2Proof/Machine/Dispatch.lean ====
section
/-! DEFINITION. One arm per row of spec/opcode_table.json, each one direct call of its meaning. -/

namespace Sys2Proof.Machine

/-- What a step does. -/
def exec (i : Instr) (s : State) : Host.Outcome State Fault Refusal :=
  match i with
  | .initClk => Sys2Proof.Machine.execInitClk s
  | .initPin => Sys2Proof.Machine.execInitPin s
  | .initPresc => Sys2Proof.Machine.execInitPresc s
  | .initDisChk => Sys2Proof.Machine.execInitDisChk s
  | .initDisWait => Sys2Proof.Machine.execInitDisWait s
  | .initPwr => Sys2Proof.Machine.execInitPwr s
  | .initSettle => Sys2Proof.Machine.execInitSettle s
  | .initCal => Sys2Proof.Machine.execInitCal s
  | .initCalWait => Sys2Proof.Machine.execInitCalWait s
  | .initMode => Sys2Proof.Machine.execInitMode s
  | .initSmp => Sys2Proof.Machine.execInitSmp s
  | .initSeqlen => Sys2Proof.Machine.execInitSeqlen s
  | .initEn => Sys2Proof.Machine.execInitEn s
  | .initRdyWait => Sys2Proof.Machine.execInitRdyWait s
  | .convSel => Sys2Proof.Machine.execConvSel s
  | .convClr => Sys2Proof.Machine.execConvClr s
  | .convStart => Sys2Proof.Machine.execConvStart s
  | .convWait => Sys2Proof.Machine.execConvWait s
  | .convRead => Sys2Proof.Machine.execConvRead s
  | .txSync0 => Sys2Proof.Machine.execTxSync0 s
  | .txSync1 => Sys2Proof.Machine.execTxSync1 s
  | .txLo => Sys2Proof.Machine.execTxLo s
  | .txHi => Sys2Proof.Machine.execTxHi s
  | .txTs0 => Sys2Proof.Machine.execTxTs0 s
  | .txTs1 => Sys2Proof.Machine.execTxTs1 s
  | .txTs2 => Sys2Proof.Machine.execTxTs2 s
  | .txTs3 => Sys2Proof.Machine.execTxTs3 s
  | .txEnd => Sys2Proof.Machine.execTxEnd s
  | .delay => Sys2Proof.Machine.execDelay s
  | .seek1Sync => Sys2Proof.Machine.execSeek1Sync s
  | .seek1Discard b => Sys2Proof.Machine.execSeek1Discard b s
  | .seek2Sync => Sys2Proof.Machine.execSeek2Sync s
  | .seek2Miss b => Sys2Proof.Machine.execSeek2Miss b s
  | .rs0Lo b => Sys2Proof.Machine.execRs0Lo b s
  | .rs1Hi b => Sys2Proof.Machine.execRs1Hi b s
  | .rt0B0 b => Sys2Proof.Machine.execRt0B0 b s
  | .rt1B1 b => Sys2Proof.Machine.execRt1B1 b s
  | .rt2B2 b => Sys2Proof.Machine.execRt2B2 b s
  | .rt3B3 b => Sys2Proof.Machine.execRt3B3 b s
  | .emit => Sys2Proof.Machine.execEmit s
  | .eosEnd _ => Sys2Proof.Machine.execEosEnd s
  | .ended => Sys2Proof.Machine.execEnded s
  | .adcDisDone => Sys2Proof.Machine.execAdcDisDone s
  | .adcCalDone => Sys2Proof.Machine.execAdcCalDone s
  | .adcReady => Sys2Proof.Machine.execAdcReady s
  | .adcConvDone => Sys2Proof.Machine.execAdcConvDone s
  | .linkDeliver => Sys2Proof.Machine.execLinkDeliver s
  | .linkDrop => Sys2Proof.Machine.execLinkDrop s
  | .linkCorrupt => Sys2Proof.Machine.execLinkCorrupt s
  | .linkInsert => Sys2Proof.Machine.execLinkInsert s
  | .linkClose => Sys2Proof.Machine.execLinkClose s
  | .hostStop => Sys2Proof.Machine.execHostStop s
  | .resetPor => Sys2Proof.Machine.execResetPor s
  | .resetWarm => Sys2Proof.Machine.execResetWarm s
  | .sessionStart => Sys2Proof.Machine.execSessionStart s

end Sys2Proof.Machine
end

