-- ==== Sys2Proof/Machine/Step.lean ====
section
/-! DEFINITION. One step of the block (spec/00_scope.md R11): a state outside the model is refused (R262); else the
picked agent's code word is fetched, decoded and run. -/

namespace Sys2Proof.Machine

/-- The step of the picked agent. -/
def runPick (p : Pick) (s : State) : Result :=
  if devicePick p && !s.started then hold (pickAgent p) s
  else
    match decode (s.fetch p) with
    | .ok i => exec i s
    | .error r => .refused (.noCode r)

/-- One step of the block. -/
def step (s : State) : Host.Outcome State Fault Refusal :=
  match s.outside with
  | some r => .refused r
  | none => runPick s.pick s.afterPick

/-- `s` with an opcode-table word placed where the next step fetches it. Log 17. -/
def State.withFetchWord (s : State) (nbits w : Nat) : State :=
  match tableCode nbits w with
  | some c => s.place c
  | none => s

end Sys2Proof.Machine
end

