-- ==== Sys2Proof/Safety.lean ====
section
/-! DEFINITION. The terms claims are stated in: the invariants of the block (R61, R145, R154, R156, R194, R234, R240,
R243), the reports of spec/60_exceptions.md R263 that are properties of states and runs (hangs, stalls, framing
conditions, session ends), the named premises ADC_HEALTHY (R164) and the faithful link (R221), FALSE_LOCK (R267), and
the states with what no rule reads erased. -/

namespace Sys2Proof.Machine

/-! Codes (R263). -/

/-- The reports that are properties of states and runs, with their info (R263). -/
inductive Report where
  | hangInitDis | hangInitCal | hangInitRdy | hangConvEoc
  | syncStall (st : BitVec 4)
  | desyncDiscard (b : Byte)
  | falseLock
  | sessEos (st : BitVec 4)
  | sessStop
deriving DecidableEq, Repr

/-- The code of a report (R263). -/
def Report.code : Report → BitVec 8
  | .hangInitDis => 0x30
  | .hangInitCal => 0x31
  | .hangInitRdy => 0x32
  | .hangConvEoc => 0x33
  | .syncStall _ => 0x34
  | .desyncDiscard _ => 0x40
  | .falseLock => 0x41
  | .sessEos _ => 0x50
  | .sessStop => 0x51

/-- The code of a step outcome (R263). -/
def StepOutcome.code : StepOutcome → BitVec 8
  | .next => 0x00
  | .hold _ => 0x01
  | .fault (.unwrittenRead _ _) => 0x10
  | .fault (.adcPrecondition _) => 0x11

/-- The code of a refusal (R263); the two reasons no step raises have none. -/
def Refusal.code : Refusal → Option (BitVec 8)
  | .badConfig _ => some 0x20
  | .badState _ _ => some 0x21
  | _ => none

/-- The poll SEQ stands at with its condition false, as the hang it is if that lasts for ever (R264, R265). -/
def State.waiting (s : State) : Option Report :=
  if s.seq.pc = 0x05 ∧ s.adc.disableDone = false then some .hangInitDis
  else if s.seq.pc = 0x09 ∧ s.adc.calDone = false then some .hangInitCal
  else if s.seq.pc = 0x0E ∧ s.adc.isReady = false then some .hangInitRdy
  else if s.seq.pc = 0x13 ∧ s.adc.convDone = false then some .hangConvEoc
  else none

/-- SYNC is in HOLD in a byte-consuming state with nothing to consume and no end of stream (R222, R269). -/
def State.stalled (s : State) : Bool :=
  consuming s.sync.st && s.sync.rxq.isEmpty && !s.sync.eos

/-- The framing condition or session end that a step taken in `s` is, if any (R263, R266, R268). -/
def stepReport (i : Instr) (s : State) : Option Report :=
  match i with
  | .seek1Discard b => some (.desyncDiscard b)
  | .seek2Miss b => some (.desyncDiscard b)
  | .eosEnd _ => if s.eosEnabled then some (.sessEos s.sync.st) else none
  | .emit => if s.sync.stop && (emitUnwritten s).isNone then some .sessStop else none
  | _ => none

/-! Runs (R11) and the named premises. -/

/-- An infinite run: every state steps to the next one. -/
def IsRun (r : Nat → State) : Prop := ∀ n, step (r n) = .next (r (n + 1))

/-- The enabling condition of each environment event (R160 to R163, R215 to R220, R300 to R302). -/
def eventEnabled (e : Event) (s : State) : Bool :=
  match e with
  | .adcDisDone => s.started && s.adc.canDisable
  | .adcCalDone => s.started && s.adc.canCalibrate
  | .adcReady => s.started && s.adc.canReady
  | .adcConvDone => s.started && s.adc.canConvert
  | .linkDeliver => !s.link.q.isEmpty && !s.link.closed
  | .linkDrop => !s.link.q.isEmpty
  | .linkCorrupt => !s.link.q.isEmpty && !s.link.closed
  | .linkInsert => !s.link.closed
  | .linkClose => !s.link.closed
  | .hostStop => !s.sync.stop && s.sync.st != 9
  | .resetPor => true
  | .resetWarm => s.started
  | .sessionStart => s.sync.st == 9

/-- The run takes event `e`'s step at time `n`. -/
def Takes (r : Nat → State) (n : Nat) (e : Event) : Prop :=
  (r n).pick = .evt e ∧ eventEnabled e (r n) = true

/-- ADC_HEALTHY (R164): each converter step that stays enabled is eventually taken. -/
def AdcHealthy (r : Nat → State) : Prop :=
  ∀ e ∈ [Event.adcDisDone, .adcCalDone, .adcReady, .adcConvDone], ∀ n,
    (∀ m, n ≤ m → eventEnabled e (r m) = true) → ∃ m, n ≤ m ∧ Takes r m e

/-- A faithful link (R221). -/
def FaithfulLink (r : Nat → State) : Prop :=
  ∀ n, ¬ Takes r n .linkDrop ∧ ¬ Takes r n .linkCorrupt ∧ ¬ Takes r n .linkInsert ∧
    (Takes r n .linkClose → (r n).link.q = [])

/-! Frames in `link.sent`. -/

/-- A reset is picked: it cuts a frame under way (R300, R301). -/
def State.cuts (s : State) : Bool := s.pick == .evt .resetPor || s.pick == .evt .resetWarm

/-- SEQ's next step sends the first byte of a frame: TX_SYNC0 (R182). -/
def State.opensFrame (s : State) : Bool := s.pick == .seq && s.started && s.seq.pc == 0x20

/-- SEQ's next step sends the last byte of a frame: TX_TS3 in timestamp mode, else TX_HI (R103, R185, R189). -/
def State.endsFrame (s : State) : Bool :=
  s.pick == .seq && s.started &&
    (if s.cfg.tsDev then s.seq.pc == 0x27 && s.seq.ts.isSome else s.seq.pc == 0x23 && s.seq.v.isSome)

/-- The position in `link.sent` of the frame under way, if any, and the positions of the whole frames. -/
abbrev Ledger := Option Nat × List Nat

/-- The ledger after the step taken in `s`. -/
def Ledger.after (l : Ledger) (s : State) : Ledger :=
  if s.cuts then (none, l.2)
  else if s.opensFrame then (some s.link.sent.length, l.2)
  else if s.endsFrame then (none, l.2 ++ l.1.toList)
  else l

/-- Where in `link.sent` the whole frames begin that the steps taken in the states `tr` send. A frame cut short by a
reset is none of them (R301 (c)). Log 24. -/
def wholeFrames (tr : List State) : List Nat := (tr.foldl Ledger.after (none, [])).2

/-- The first `n` states of a run. -/
def trace (r : Nat → State) (n : Nat) : List State := (List.range n).map r

/-- Position `k` of `link.sent` is where a frame begins that the run sends whole. -/
def IsFrameStart (r : Nat → State) (k : Nat) : Prop := ∃ n, k ∈ wholeFrames (trace r n)

/-- Bytes in a frame as SYNC reads it (R103). -/
def frameLength (ts : Bool) : Nat := if ts then 8 else 4

/-- On a faithful link, the position in `link.sent` of the first byte of the frame SYNC has just completed: what was
sent, less what is still in flight, still unconsumed, or part of the frame. -/
def State.lockIndex (s : State) : Nat :=
  s.link.sent.length - s.link.q.length - s.sync.rxq.length - frameLength s.cfg.tsHost

/-- The step taken in `s` is an EMIT that emits (R230). -/
def State.emits (s : State) : Bool := s.pick == .sync && s.sync.st == 8 && (emitUnwritten s).isNone

/-- FALSE_LOCK (R267), of a run with a faithful link, begun with nothing sent: the EMIT at time `n` ends a frame whose
two marker bytes were not the two that open one frame in `link.sent`. Log 24. -/
def FalseLock (r : Nat → State) (n : Nat) : Prop :=
  FaithfulLink r ∧ (r n).emits = true ∧ ¬ IsFrameStart r (r n).lockIndex

/-- The step taken in `s` gives the report `h` (R263, R266, R268). -/
def StepReports (s : State) (h : Report) : Prop :=
  (devicePick s.pick && !s.started) = false ∧ ∃ i, decode (s.fetch s.pick) = .ok i ∧ stepReport i s = some h

/-- What a run reports at time `n` (R263): a hang or a stall that lasts from then on (R264, R265, R269), a false lock
(R267), or the report of the step taken then. -/
def Reports (r : Nat → State) (n : Nat) (h : Report) : Prop :=
  match h with
  | .hangInitDis | .hangInitCal | .hangInitRdy | .hangConvEoc => ∀ m, n ≤ m → (r m).waiting = some h
  | .syncStall st => ∀ m, n ≤ m → (r m).stalled = true ∧ (r m).sync.st = st
  | .falseLock => FalseLock r n
  | .desyncDiscard _ | .sessEos _ | .sessStop => StepReports (r n) h

/-! Wire frames. -/

/-- The bytes of a frame without timestamp (R101, R181), given by arithmetic on the sample. -/
def frameBytes (v : U16) : List Byte :=
  [0xAA, 0xAA, BitVec.ofNat 8 (v.toNat % 256), BitVec.ofNat 8 (v.toNat / 256)]

/-- The bytes of a timestamp field (R101, R181), given by arithmetic. -/
def stampBytes (t : U32) : List Byte :=
  [BitVec.ofNat 8 (t.toNat % 256), BitVec.ofNat 8 (t.toNat / 256 % 256),
   BitVec.ofNat 8 (t.toNat / 65536 % 256), BitVec.ofNat 8 (t.toNat / 16777216)]

/-! Invariants. -/

/-- What the device's converter satisfies in every state (R61), and what the initialisation has established by the time
SEQ is at a given sequencer state (R131 to R145). -/
structure DeviceInv (s : State) : Prop where
  legal   : s.adc.legal
  clocks  : 0x02 ≤ s.seq.pc.toNat → s.adc.clkAdc = true ∧ s.adc.clkPort = true
  pin     : 0x03 ≤ s.seq.pc.toNat → s.adc.pinMode = .analog ∧ s.adc.pinDigOff = true
  presc   : 0x04 ≤ s.seq.pc.toNat → s.adc.presc = s.cfg.prescSel
  disWait : s.seq.pc.toNat = 0x05 → s.adc.disReq = true ∨ (s.adc.enabled = false ∧ s.adc.enReq = false)
  idle    : 0x06 ≤ s.seq.pc.toNat → s.seq.pc.toNat ≤ 0x0D → s.adc.enabled = false ∧ s.adc.enReq = false
  power   : 0x07 ≤ s.seq.pc.toNat → s.adc.dpd = false ∧ s.adc.regen = true
  calOff  : 0x0A ≤ s.seq.pc.toNat → s.adc.cal = false
  mode    : 0x0B ≤ s.seq.pc.toNat → s.adc.cont = false ∧ s.adc.ressel = s.cfg.res
  smp     : 0x0C ≤ s.seq.pc.toNat → chanRead s.adc.smp s.cfg.adcCh = s.cfg.smpSel
  seqLen  : 0x0D ≤ s.seq.pc.toNat → s.adc.seqLen = 1
  calm    : 0x0E ≤ s.seq.pc.toNat → s.adc.enabled = true → s.adc.disReq = false ∧ s.adc.enReq = false
  running : 0x10 ≤ s.seq.pc.toNat → s.adc.enabled = true ∧ s.adc.rdy = true
  single  : 0x0E ≤ s.seq.pc.toNat → s.seq.pc.toNat ≠ 0x13 → s.adc.start = false
  cleared : s.seq.pc.toNat = 0x12 → s.adc.eoc = false
  convert : s.seq.pc.toNat = 0x13 → s.adc.start = !s.adc.eoc

/-- What SEQ's registers satisfy in every state: a listed state (R32), the pins (R156, R194), the masked sample (R154),
and what is written before it is read (R33, R34). -/
structure SeqInv (s : State) : Prop where
  listed   : listedPc s.seq.pc = true
  convPin  : s.seq.diagConv = true ↔ s.seq.pc = 0x13 ∨ s.seq.pc = 0x14
  txPin    : s.seq.diagTx = true ↔ 0x21 ≤ s.seq.pc.toNat ∧ s.seq.pc.toNat ≤ 0x28
  masked   : ∀ v, s.seq.v = some v → v.toNat < 2 ^ s.cfg.res
  vWritten : 0x20 ≤ s.seq.pc.toNat → s.seq.v.isSome = true
  stamped  : 0x21 ≤ s.seq.pc.toNat → s.seq.pc.toNat ≤ 0x28 → s.cfg.tsDev = true → s.seq.ts.isSome = true
  tsMode   : 0x24 ≤ s.seq.pc.toNat → s.seq.pc.toNat ≤ 0x27 → s.cfg.tsDev = true

/-- The x-position every EMIT record shows (R234). -/
def xNewest (c : Config) : Rat :=
  match c.xunit, c.tsHost with
  | .index, _ => (c.histN : Rat) - 1
  | .time, false => ((c.histN : Rat) - 1) / c.fs
  | .time, true => 0

/-- What SYNC satisfies in every state: a listed state (R66), what is written before it is read (R67), the sizes
(R71 to R73), and what the buffers hold (R232, R234, R240, R243). -/
structure SyncInv (s : State) : Prop where
  listed  : s.sync.st.toNat ≤ 9
  sample  : 3 ≤ s.sync.st.toNat → s.sync.st.toNat ≤ 8 → s.sync.accS.isSome = true
  stamp   : 5 ≤ s.sync.st.toNat → s.sync.st.toNat ≤ 8 → s.cfg.tsHost = true → s.sync.accT.isSome = true
  tsMode  : 4 ≤ s.sync.st.toNat → s.sync.st.toNat ≤ 7 → s.cfg.tsHost = true
  sizeY   : s.sync.histY.length = s.cfg.histN
  sizeX   : s.sync.histX.length = s.cfg.histN
  sizeR   : s.sync.rbuf.length = s.cfg.rateM
  cursor  : s.sync.rcur < s.cfg.rateM
  fixedX  : ¬ (s.cfg.tsHost = true ∧ s.cfg.xunit = .time) →
              s.sync.histX = (List.range s.cfg.histN).map (xStart s.cfg)
  newestX : s.sync.histX[s.cfg.histN - 1]? = some (xNewest s.cfg)
  records : ∀ o ∈ s.sync.out, o.x = xNewest s.cfg
  rated   : s.sync.rate = rateEstimate s.sync.rbuf
  window  : s.sync.histY =
              (List.replicate s.cfg.histN none ++ s.sync.out.map (fun (o : OutRec) => some o.sample)).drop s.sync.out.length

/-- What the link satisfies from the first RESET_POR on: what is in flight was sent last (R64, R65), and it is closed
exactly when the end of stream is signalled (R219, R302). -/
structure LinkInv (s : State) : Prop where
  started : s.started = true
  suffix  : s.link.q <:+ s.link.sent
  closing : s.sync.eos = s.link.closed

/-! States with what no rule reads erased. -/

/-- A state without its rate estimator and the rates it recorded (R239). -/
def State.withoutRate (s : State) : State :=
  { s with
    sync := { s.sync with
      rbuf := [], rcur := 0, rate := none, out := s.sync.out.map (fun (o : OutRec) => { o with rate := none }) } }

/-- A state without the converter fields that are recorded state only (R40 to R44, R48, R50 to R52), the diagnostic
pins (R36) and the observation logs (R65, R75). -/
def State.withoutObservations (s : State) : State :=
  { s with
    seq := { s.seq with diagConv := false, diagTx := false }
    adc := { s.adc with
      clkAdc := false, clkPort := false, pinMode := .digital, pinDigOff := false, presc := 0
      calFact := 0, ressel := 1, smp := [], seqLen := 0 }
    link := { s.link with sent := [] }
    sync := { s.sync with out := [] } }

end Sys2Proof.Machine
end

