-- ==== Sys2Proof/Certificates/Slice0/Obligations.lean ====
section
/-! DEFINITION. The statements for the provers, each from numbered rules of spec/. A state equation
`exec i s = .next ...` gives an instruction's result, its completion and its whole frame: every field not named after
`with` is unchanged. `last` is the model's record of the step's outcome (log 12). -/

open Sys2Proof Sys2Proof.Machine

/-! Encoding. -/

/-- R105, R107 to R110: decoding the code word of a well-formed instruction gives it back; and a code word has one
meaning: what it decodes to is well formed and has exactly that word. -/
def Obligations.DecodeEncodeRoundTrip : Prop :=
  (∀ i : Instr, WellFormed i = true → decode (encode i) = .ok i) ∧
  (∀ (c : Code) (i : Instr), decode c = .ok i → WellFormed i = true ∧ encode i = c)

/-- R107: "For every state 0 to 7 and every byte, exactly one row is taken": the one of R108. -/
def Obligations.TokenRowForEveryStateAndByte : Prop :=
  ∀ b : Byte,
    decode (.tok (0#4 ++ b)) = .ok (if b = 0xAA then .seek1Sync else .seek1Discard b) ∧
    decode (.tok (1#4 ++ b)) = .ok (if b = 0xAA then .seek2Sync else .seek2Miss b) ∧
    decode (.tok (2#4 ++ b)) = .ok (.rs0Lo b) ∧
    decode (.tok (3#4 ++ b)) = .ok (.rs1Hi b) ∧
    decode (.tok (4#4 ++ b)) = .ok (.rt0B0 b) ∧
    decode (.tok (5#4 ++ b)) = .ok (.rt1B1 b) ∧
    decode (.tok (6#4 ++ b)) = .ok (.rt2B2 b) ∧
    decode (.tok (7#4 ++ b)) = .ok (.rt3B3 b)

/-- R111 (c): the unassigned SEQ codes, the SYNC_INT codes 10 to 15, tokens of a state above 7 and codes of no event are
no instruction; every other code word is one. -/
def Obligations.UnassignedCodesAreRejected : Prop :=
  (∀ c : BitVec 8, (∃ i, decode (.seq c) = .ok i) ↔
    (0x01 ≤ c.toNat ∧ c.toNat ≤ 0x0E) ∨ (0x10 ≤ c.toNat ∧ c.toNat ≤ 0x14) ∨
    (0x20 ≤ c.toNat ∧ c.toNat ≤ 0x28) ∨ c.toNat = 0x30) ∧
  (∀ c : BitVec 4, (∃ i, decode (.syncInt c) = .ok i) ↔ c.toNat ≤ 9) ∧
  (∀ t : BitVec 12, (∃ i, decode (.tok t) = .ok i) ↔ t.toNat < 0x800) ∧
  (∀ c : BitVec 8, (∃ i, decode (.evt c) = .ok i) ↔
    (0x80 ≤ c.toNat ∧ c.toNat ≤ 0x83) ∨ (0x90 ≤ c.toNat ∧ c.toNat ≤ 0x94) ∨
    (0xA0 ≤ c.toNat ∧ c.toNat ≤ 0xA3))

/-- R105, R108 to R110: one word of each family, written out from the tables, decodes to its instruction. -/
def Obligations.SpecWordsDecode : Prop :=
  decode (.seq 0b00001000#8) = .ok .initCal ∧
  decode (.seq 0b00010010#8) = .ok .convStart ∧
  decode (.seq 0b00100011#8) = .ok .txHi ∧
  decode (.tok 0b000010101010#12) = .ok .seek1Sync ∧
  decode (.tok 0b001100000101#12) = .ok (.rs1Hi 0x05) ∧
  decode (.syncInt 0b1000#4) = .ok .emit ∧
  decode (.syncInt 0b0011#4) = .ok (.eosEnd 3) ∧
  decode (.evt 0b10000011#8) = .ok .adcConvDone ∧
  decode (.evt 0b10010010#8) = .ok .linkCorrupt ∧
  decode (.evt 0b10100011#8) = .ok .sessionStart

/-! The step. -/

/-- R11, R32, R201: in a state of the model the step is the picked agent's instruction, run after the pick is taken.
SEQ's word is `seq.pc`. SYNC's is the token of its state and the head of `sync.rxq` in a byte-consuming state, and its
state's SYNC_INT code otherwise. An event's is its code. -/
def Obligations.StepRunsDecodedInstruction : Prop :=
  (∀ (s : State) (i : Instr), s.outside = none → (devicePick s.pick = true → s.started = true) →
    decode (s.afterPick.fetch s.pick) = .ok i → step s = exec i s.afterPick) ∧
  (∀ s : State, s.fetch .seq = .seq s.seq.pc) ∧
  (∀ (s : State) (b : Byte) (bs : List Byte), s.sync.rxq = b :: bs → s.sync.st.toNat < 8 →
    s.fetch .sync = .tok (s.sync.st ++ b)) ∧
  (∀ s : State, s.sync.rxq = [] ∨ 8 ≤ s.sync.st.toNat → s.fetch .sync = .syncInt s.sync.st) ∧
  (∀ (s : State) (e : Event), s.fetch (.evt e) = .evt e.code) ∧
  (∀ s : State, s.afterPick = { s with env.picks := s.env.picks.tail, env.tick := s.env.tick + 1 })

/-- R300: the first RESET_POR "is the first device event of every run": before it SEQ and the ADC have no step (HOLD).
The reading is the model's, log 13. -/
def Obligations.DeviceHoldsBeforeFirstPowerOn : Prop :=
  ∀ s : State, s.outside = none → s.started = false →
    (s.pick = .seq → step s = .next { s.afterPick with last := .hold .seq }) ∧
    (s.pick = .evt .adcDisDone ∨ s.pick = .evt .adcCalDone ∨ s.pick = .evt .adcReady ∨ s.pick = .evt .adcConvDone →
      step s = .next { s.afterPick with last := .hold .adc })

/-- R262, R8: a step is refused exactly in the states outside the model, for the reason of that state; a configuration
is refused exactly when R8 does not hold, and the clause named is one that is broken. Which reason is given where several
hold (BAD_CONFIG before BAD_STATE, SEQ before SYNC) is log 10; R262 gives no order. -/
def Obligations.RefusedExactlyOutsideTheModel : Prop :=
  (∀ (s : State) (r : Refusal), step s = .refused r ↔ s.outside = some r) ∧
  (∀ s : State, (∃ c, s.outside = some (.badConfig c)) ↔
    ¬ (1 ≤ s.cfg.res ∧ s.cfg.res ≤ 16 ∧ 1 ≤ s.cfg.histN ∧ 1 ≤ s.cfg.rateM ∧ 0 < s.cfg.fs ∧
       s.cfg.tSettle ≥ s.cfg.tRegMin ∧ s.cfg.tDelay ≥ s.cfg.tConvMin)) ∧
  (∀ (s : State) (c : Clause), s.outside = some (.badConfig c) →
    match c with
    | .resLow => ¬ 1 ≤ s.cfg.res
    | .resHigh => ¬ s.cfg.res ≤ 16
    | .histN => ¬ s.cfg.histN ≥ 1
    | .rateM => ¬ s.cfg.rateM ≥ 1
    | .fs => ¬ s.cfg.fs > 0
    | .settle => ¬ s.cfg.tSettle ≥ s.cfg.tRegMin
    | .delay => ¬ s.cfg.tDelay ≥ s.cfg.tConvMin) ∧
  (∀ s : State, s.cfg.Wf → (¬ ∃ i, decode (.seq s.seq.pc) = .ok i) →
    s.outside = some (.badState .seq s.seq.pc)) ∧
  (∀ s : State, s.cfg.Wf → (∃ i, decode (.seq s.seq.pc) = .ok i) → 10 ≤ s.sync.st.toNat →
    s.outside = some (.badState .sync (BitVec.ofNat 8 s.sync.st.toNat))) ∧
  (∀ s : State, s.cfg.Wf → (∃ i, decode (.seq s.seq.pc) = .ok i) → s.sync.st.toNat ≤ 9 → s.outside = none)

/-- R11, R261: no instruction stops the machine: every one answers a next state from every state, and no step ends in a
fault (a FAULT is recorded and "never final", log 9). -/
def Obligations.EveryInstructionAnswersANextState : Prop :=
  (∀ (i : Instr) (s : State), ∃ t, exec i s = .next t) ∧
  (∀ (s : State) (f : Fault), step s ≠ .fault f)

/-- Log 17: a code word placed in a state of the model is the very next instruction the step runs. -/
def Obligations.PlacedWordIsTheNextInstruction : Prop :=
  ∀ (s : State) (c : Code) (i : Instr), s.outside = none → decode c = .ok i →
    step (s.place c) = exec i (s.place c).afterPick

/-! SEQ: initialisation (R131 to R144). -/

/-- R131, R132, R133, R136: the clocks, the pin, the prescaler, and power. -/
def Obligations.InitClockPinPrescalerPower : Prop :=
  ∀ s : State,
    exec .initClk s =
      .next { s with adc.clkAdc := true, adc.clkPort := true, seq.pc := 0x02, last := .next } ∧
    exec .initPin s =
      .next { s with adc.pinMode := .analog, adc.pinDigOff := true, seq.pc := 0x03, last := .next } ∧
    exec .initPresc s =
      .next { s with adc.presc := s.cfg.prescSel, seq.pc := 0x04, last := .next } ∧
    exec .initPwr s = .next { s with adc.dpd := false, adc.regen := true, seq.pc := 0x07, last := .next }

/-- R134: a converter enabled, or with an enable pending, is asked to disable; otherwise the wait is skipped. -/
def Obligations.InitDisableCheck : Prop :=
  ∀ s : State,
    (s.adc.enabled = true ∨ s.adc.enReq = true →
      exec .initDisChk s = .next { s with adc.disReq := true, seq.pc := 0x05, last := .next }) ∧
    (s.adc.enabled = false → s.adc.enReq = false →
      exec .initDisChk s = .next { s with seq.pc := 0x06, last := .next })

/-- R135, R139, R144, R153, R137, R191: a poll advances when its condition holds and otherwise leaves everything as it
is; a delay is one step that only advances. -/
def Obligations.PollsAndDelays : Prop :=
  ∀ s : State,
    exec .initDisWait s = .next { s with
      seq.pc := (if s.adc.enabled = false ∧ s.adc.disReq = false then 0x06 else s.seq.pc), last := .next } ∧
    exec .initCalWait s = .next { s with
      seq.pc := (if s.adc.cal = false then 0x0A else s.seq.pc), last := .next } ∧
    exec .initRdyWait s = .next { s with
      seq.pc := (if s.adc.rdy = true then 0x10 else s.seq.pc), last := .next } ∧
    exec .convWait s = .next { s with
      seq.pc := (if s.adc.eoc = true then 0x14 else s.seq.pc), last := .next } ∧
    exec .initSettle s = .next { s with seq.pc := 0x08, last := .next } ∧
    exec .delay s = .next { s with seq.pc := 0x10, last := .next }

/-- R138, R143, R152, R261 (b): a converter request that keeps R61 is made; one that would break it is a fault that
writes nothing but the fault mark. -/
def Obligations.ConverterRequests : Prop :=
  ∀ s : State,
    (s.adc.enabled = false →
      exec .initCal s = .next { s with adc.cal := true, seq.pc := 0x09, last := .next }) ∧
    (s.adc.cal = false → s.adc.enabled = false →
      exec .initEn s = .next { s with adc.enReq := true, seq.pc := 0x0E, last := .next }) ∧
    (s.adc.enabled = true → s.adc.rdy = true →
      exec .convStart s = .next { s with
        adc.start := true, seq.diagConv := true, seq.pc := 0x13, last := .next }) ∧
    (s.adc.enabled = true →
      exec .initCal s = .next { s with
        faults := s.faults ++ [.adcPrecondition 0x08], last := .fault (.adcPrecondition 0x08) }) ∧
    (s.adc.cal = true ∨ s.adc.enabled = true →
      exec .initEn s = .next { s with
        faults := s.faults ++ [.adcPrecondition 0x0D], last := .fault (.adcPrecondition 0x0D) }) ∧
    (s.adc.enabled = false ∨ s.adc.rdy = false →
      exec .convStart s = .next { s with
        faults := s.faults ++ [.adcPrecondition 0x12], last := .fault (.adcPrecondition 0x12) })

/-- R140, R141, R142: the sampling time of the sampled channel alone is written. -/
def Obligations.InitModeSamplingSequence : Prop :=
  ∀ s : State,
    exec .initMode s =
      .next { s with adc.cont := false, adc.ressel := s.cfg.res, seq.pc := 0x0B, last := .next } ∧
    (∃ m : ChanMap,
      exec .initSmp s = .next { s with adc.smp := m, seq.pc := 0x0C, last := .next } ∧
      (chanWf s.adc.smp → chanRead m s.cfg.adcCh = s.cfg.smpSel ∧
        ∀ c, c ≠ s.cfg.adcCh → chanRead m c = chanRead s.adc.smp c)) ∧
    exec .initSeqlen s = .next { s with adc.seqLen := 1, seq.pc := 0x0D, last := .next }

/-- R39, R50, log 2, log 7: what RESET_POR draws is a legal converter state, whatever stands in `env.power` or is free;
a legal one is drawn as it is, and every legal one can be drawn. -/
def Obligations.PowerUpDrawIsLegal : Prop :=
  (∀ s : State, s.powerUp.adc.legal ∧
    (∀ p ps, s.env.power = p :: ps → s.powerUp.tLast = p.tLast ∧ (p.adc.legal → s.powerUp.adc = p.adc)) ∧
    (s.env.power = [] → s.powerUp.tLast = (Config.freePowerUp s.env.tick).tLast ∧
      ((Config.freePowerUp s.env.tick).adc.legal → s.powerUp.adc = (Config.freePowerUp s.env.tick).adc))) ∧
  (∀ (s : State) (p : PowerUp), p.adc.legal → { s with env.power := p :: s.env.power }.powerUp = p)

/-! SEQ: conversion (R150 to R154). -/

/-- R150, R151. -/
def Obligations.ConvSelectAndClear : Prop :=
  ∀ s : State,
    exec .convSel s = .next { s with adc.seqCh1 := s.cfg.adcCh, seq.pc := 0x11, last := .next } ∧
    exec .convClr s = .next { s with adc.eoc := false, seq.pc := 0x12, last := .next }

/-- R154: the result masked to the resolution: its value modulo `2^RES`; the pin falls; `EOC` stays. -/
def Obligations.ConvReadMasksToResolution : Prop :=
  ∀ s : State, s.cfg.res ≤ 16 →
    exec .convRead s = .next { s with
      seq.v := some (BitVec.ofNat 16 (s.adc.dr.toNat % 2 ^ s.cfg.res))
      seq.diagConv := false
      seq.pc := 0x20
      last := .next }

/-! SEQ: the frame (R182 to R191). -/

/-- R182: without timestamp mode the registers are not touched; with it the delta since the previous frame, modulo
`2^32`, and the reading are kept. Whatever TMR answers: `env.tmr` or a free value (log 2). -/
def Obligations.TxSync0 : Prop :=
  ∀ s : State,
    (s.cfg.tsDev = false →
      exec .txSync0 s = .next { s with
        seq.diagTx := true, seq.pc := 0x21
        link.q := s.link.q ++ [0xAA], link.sent := s.link.sent ++ [0xAA], last := .next }) ∧
    (s.cfg.tsDev = true →
      exec .txSync0 s = .next { s with
        seq.diagTx := true, seq.pc := 0x21
        seq.ts := some (BitVec.ofNat 32 ((s.tmrRead.toNat + 2 ^ 32 - s.seq.tLast.toNat) % 2 ^ 32))
        seq.tLast := s.tmrRead
        env.tmr := s.env.tmr.tail, env.tick := s.env.tick + 1
        link.q := s.link.q ++ [0xAA], link.sent := s.link.sent ++ [0xAA], last := .next }) ∧
    (∀ (t : U32) (ts : List U32), s.env.tmr = t :: ts → s.tmrRead = t) ∧
    (s.env.tmr = [] → s.tmrRead = Config.freeTmr s.env.tick)

/-- R183, R184, R185, R190: the second marker, the sample's low byte, its high byte, and the end. -/
def Obligations.TxMarkerSampleEnd : Prop :=
  ∀ s : State,
    exec .txSync1 s = .next { s with
      seq.pc := 0x22, link.q := s.link.q ++ [0xAA], link.sent := s.link.sent ++ [0xAA], last := .next } ∧
    exec .txEnd s = .next { s with seq.diagTx := false, seq.pc := 0x30, last := .next } ∧
    ∀ v : U16, s.seq.v = some v →
      exec .txLo s = .next { s with
        seq.pc := 0x23
        link.q := s.link.q ++ [BitVec.ofNat 8 (v.toNat % 256)]
        link.sent := s.link.sent ++ [BitVec.ofNat 8 (v.toNat % 256)], last := .next } ∧
      exec .txHi s = .next { s with
        seq.pc := (if s.cfg.tsDev = true then 0x24 else 0x28)
        link.q := s.link.q ++ [BitVec.ofNat 8 (v.toNat / 256)]
        link.sent := s.link.sent ++ [BitVec.ofNat 8 (v.toNat / 256)], last := .next }

/-- R186 to R189: the four timestamp bytes, least significant first. -/
def Obligations.TxTimestampBytes : Prop :=
  ∀ (s : State) (t : U32), s.seq.ts = some t →
    exec .txTs0 s = .next { s with
      seq.pc := 0x25
      link.q := s.link.q ++ [BitVec.ofNat 8 (t.toNat % 256)]
      link.sent := s.link.sent ++ [BitVec.ofNat 8 (t.toNat % 256)], last := .next } ∧
    exec .txTs1 s = .next { s with
      seq.pc := 0x26
      link.q := s.link.q ++ [BitVec.ofNat 8 (t.toNat / 2 ^ 8 % 256)]
      link.sent := s.link.sent ++ [BitVec.ofNat 8 (t.toNat / 2 ^ 8 % 256)], last := .next } ∧
    exec .txTs2 s = .next { s with
      seq.pc := 0x27
      link.q := s.link.q ++ [BitVec.ofNat 8 (t.toNat / 2 ^ 16 % 256)]
      link.sent := s.link.sent ++ [BitVec.ofNat 8 (t.toNat / 2 ^ 16 % 256)], last := .next } ∧
    exec .txTs3 s = .next { s with
      seq.pc := 0x28
      link.q := s.link.q ++ [BitVec.ofNat 8 (t.toNat / 2 ^ 24)]
      link.sent := s.link.sent ++ [BitVec.ofNat 8 (t.toNat / 2 ^ 24)], last := .next }

/-- R261 (a): reading a register never written is a fault that writes nothing but the fault mark. -/
def Obligations.UnwrittenReadsAreFaults : Prop :=
  ∀ s : State,
    (s.seq.v = none →
      (∀ p ∈ [(Instr.txLo, (0x22 : BitVec 8)), (.txHi, 0x23)],
        exec p.1 s = .next { s with
          faults := s.faults ++ [.unwrittenRead (.seq p.2) .seqV]
          last := .fault (.unwrittenRead (.seq p.2) .seqV) })) ∧
    (s.seq.ts = none →
      (∀ p ∈ [(Instr.txTs0, (0x24 : BitVec 8)), (.txTs1, 0x25), (.txTs2, 0x26), (.txTs3, 0x27)],
        exec p.1 s = .next { s with
          faults := s.faults ++ [.unwrittenRead (.seq p.2) .seqTs]
          last := .fault (.unwrittenRead (.seq p.2) .seqTs) })) ∧
    (s.sync.accS = none →
      exec .emit s = .next { s with
        faults := s.faults ++ [.unwrittenRead (.syncInt 8) .accS]
        last := .fault (.unwrittenRead (.syncInt 8) .accS) }) ∧
    (s.sync.accS ≠ none → s.cfg.tsHost = true → s.sync.accT = none →
      exec .emit s = .next { s with
        faults := s.faults ++ [.unwrittenRead (.syncInt 8) .accT]
        last := .fault (.unwrittenRead (.syncInt 8) .accT) })

/-- R105: the successor of each sequencer state, on every SEQ step. -/
def Obligations.SequencerSuccessors : Prop :=
  ∀ s t : State, s.pick = .seq → s.started = true → step s = .next t → t.faults = s.faults →
    t.seq.pc.toNat =
      if s.seq.pc = 0x04 then (if s.adc.enabled = true ∨ s.adc.enReq = true then 0x05 else 0x06)
      else if s.seq.pc = 0x05 then (if s.adc.enabled = false ∧ s.adc.disReq = false then 0x06 else 0x05)
      else if s.seq.pc = 0x09 then (if s.adc.cal = false then 0x0A else 0x09)
      else if s.seq.pc = 0x0E then (if s.adc.rdy = true then 0x10 else 0x0E)
      else if s.seq.pc = 0x13 then (if s.adc.eoc = true then 0x14 else 0x13)
      else if s.seq.pc = 0x14 then 0x20
      else if s.seq.pc = 0x23 then (if s.cfg.tsDev = true then 0x24 else 0x28)
      else if s.seq.pc = 0x28 then 0x30
      else if s.seq.pc = 0x30 then 0x10
      else s.seq.pc.toNat + 1

/-- R181: five SEQ steps from TX_SYNC0, or nine in timestamp mode, append exactly one frame to what was sent; in
timestamp mode the timestamp is the one captured by TX_SYNC0. -/
def Obligations.FrameBytesOnTheWire : Prop :=
  ∀ (s : State) (v : U16) (ps : List Pick), s.outside = none → s.started = true → s.seq.pc = 0x20 →
    s.seq.v = some v →
    (s.cfg.tsDev = false → s.env.picks = List.replicate 5 .seq ++ ps →
      ∃ t, Host.Core.run core 5 s = .next t ∧ t.seq.pc = 0x30 ∧ t.link.sent = s.link.sent ++ frameBytes v ∧
        t.link.q = s.link.q ++ frameBytes v ∧ t.faults = s.faults) ∧
    (s.cfg.tsDev = true → s.env.picks = List.replicate 9 .seq ++ ps →
      ∃ t, ∃ ts : U32, Host.Core.run core 9 s = .next t ∧ t.seq.pc = 0x30 ∧ t.seq.ts = some ts ∧
        t.link.sent = s.link.sent ++ frameBytes v ++ stampBytes ts ∧
        t.link.q = s.link.q ++ frameBytes v ++ stampBytes ts ∧ t.faults = s.faults)

/-! SYNC: tokens (R202 to R211). -/

/-- R202 to R205: the search for the marker. Each token consumes the head of `sync.rxq`. -/
def Obligations.MarkerSearch : Prop :=
  ∀ s : State,
    exec .seek1Sync s = .next { s with sync.st := 1, sync.rxq := s.sync.rxq.tail, last := .next } ∧
    (∀ b : Byte, exec (.seek1Discard b) s =
      .next { s with sync.st := 0, sync.rxq := s.sync.rxq.tail, last := .next }) ∧
    exec .seek2Sync s = .next { s with sync.st := 2, sync.rxq := s.sync.rxq.tail, last := .next } ∧
    (∀ b : Byte, b ≠ 0xAA → exec (.seek2Miss b) s =
      .next { s with sync.st := 0, sync.rxq := s.sync.rxq.tail, last := .next })

/-- R206, R207: the sample is assembled low byte first. -/
def Obligations.SampleAssembly : Prop :=
  ∀ (s : State) (b : Byte),
    exec (.rs0Lo b) s = .next { s with
      sync.accS := some (BitVec.ofNat 16 b.toNat), sync.st := 3
      sync.rxq := s.sync.rxq.tail, last := .next } ∧
    ∀ v : U16, s.sync.accS = some v →
      exec (.rs1Hi b) s = .next { s with
        sync.accS := some (BitVec.ofNat 16 (v.toNat % 256 + 256 * b.toNat))
        sync.st := (if s.cfg.tsHost = true then 4 else 8)
        sync.rxq := s.sync.rxq.tail, last := .next }

/-- R208 to R211: the timestamp is assembled least significant byte first, each byte leaving the others as they were. -/
def Obligations.TimestampAssembly : Prop :=
  ∀ (s : State) (b : Byte),
    exec (.rt0B0 b) s = .next { s with
      sync.accT := some (BitVec.ofNat 32 b.toNat), sync.st := 5
      sync.rxq := s.sync.rxq.tail, last := .next } ∧
    ∀ t : U32, s.sync.accT = some t →
      exec (.rt1B1 b) s = .next { s with
        sync.accT := some (BitVec.ofNat 32 (t.toNat / 2 ^ 16 * 2 ^ 16 + 2 ^ 8 * b.toNat + t.toNat % 2 ^ 8))
        sync.st := 6, sync.rxq := s.sync.rxq.tail, last := .next } ∧
      exec (.rt2B2 b) s = .next { s with
        sync.accT := some (BitVec.ofNat 32 (t.toNat / 2 ^ 24 * 2 ^ 24 + 2 ^ 16 * b.toNat + t.toNat % 2 ^ 16))
        sync.st := 7, sync.rxq := s.sync.rxq.tail, last := .next } ∧
      exec (.rt3B3 b) s = .next { s with
        sync.accT := some (BitVec.ofNat 32 (2 ^ 24 * b.toNat + t.toNat % 2 ^ 24))
        sync.st := 8, sync.rxq := s.sync.rxq.tail, last := .next }

/-- Log 14, the model's reading of a state no run reaches: a byte written into an unwritten accumulator leaves it
unwritten, and the step is otherwise as its rule says. -/
def Obligations.PartWrittenAccumulatorStaysUnwritten : Prop :=
  ∀ (s : State) (b : Byte),
    (s.sync.accS = none → exec (.rs1Hi b) s = .next { s with
      sync.st := (if s.cfg.tsHost = true then 4 else 8), sync.rxq := s.sync.rxq.tail, last := .next }) ∧
    (s.sync.accT = none →
      ∀ p ∈ [(Instr.rt1B1 b, (6 : BitVec 4)), (.rt2B2 b, 7), (.rt3B3 b, 8)],
        exec p.1 s = .next { s with sync.st := p.2, sync.rxq := s.sync.rxq.tail, last := .next })

/-- R212, R201, R213: end of stream ends the session without emitting. Log 11: where it is not enabled its instruction
is HOLD, and so is ENDED, which has no step; with a byte waiting SYNC's own step is that byte's token (R201). -/
def Obligations.EndOfStream : Prop :=
  ∀ s : State,
    (∀ x, s.sync.st.toNat < 8 → s.sync.rxq = [] → s.sync.eos = true →
      exec (.eosEnd x) s = .next { s with sync.st := 9, last := .next }) ∧
    (∀ x, ¬ (s.sync.st.toNat < 8 ∧ s.sync.rxq = [] ∧ s.sync.eos = true) →
      exec (.eosEnd x) s = .next { s with last := .hold .sync }) ∧
    exec .ended s = .next { s with last := .hold .sync }

/-! EMIT (R230 to R245). -/

/-- R230, R232 to R235, R237, R240 with TS_HOST: the interval is the timestamp in seconds, no draw is taken. -/
def Obligations.EmitWithTimestamps : Prop :=
  ∀ (s : State) (v : U16) (t : U32), s.sync.accS = some v → s.cfg.tsHost = true → s.sync.accT = some t →
    ∀ xs buf, xs = (if s.cfg.xunit = .time then (s.sync.histX.drop 1).map (fun x => x - (t.toNat : Rat) / 1000000) ++ [0]
                    else s.sync.histX) →
      buf = s.sync.rbuf.set s.sync.rcur (some ((t.toNat : Rat) / 1000000)) →
      exec .emit s = .next { s with
        sync.histY := s.sync.histY.drop 1 ++ [some v]
        sync.histX := xs
        sync.rbuf := buf
        sync.rcur := (s.sync.rcur + 1) % s.cfg.rateM
        sync.rate := rateEstimate buf
        sync.out := s.sync.out ++ [{ sample := v, x := xs.getD (s.cfg.histN - 1) 0, rate := rateEstimate buf }]
        sync.st := (if s.sync.stop = true then 9 else 0)
        last := .next }

/-- R230, R232, R235, R237, R240 without TS_HOST: the interval is a wall-clock draw, never negative; the x-axis stays. -/
def Obligations.EmitWithWallClock : Prop :=
  ∀ (s : State) (v : U16), s.sync.accS = some v → s.cfg.tsHost = false →
    ∃ d : Rat, 0 ≤ d ∧ (∀ w ws, s.env.wall = w :: ws → 0 ≤ w → d = w) ∧
      ∀ buf, buf = s.sync.rbuf.set s.sync.rcur (some d) →
      exec .emit s = .next { s with
        sync.histY := s.sync.histY.drop 1 ++ [some v]
        sync.rbuf := buf
        sync.rcur := (s.sync.rcur + 1) % s.cfg.rateM
        sync.rate := rateEstimate buf
        sync.out := s.sync.out ++
          [{ sample := v, x := s.sync.histX.getD (s.cfg.histN - 1) 0, rate := rateEstimate buf }]
        sync.st := (if s.sync.stop = true then 9 else 0)
        env.wall := s.env.wall.tail, env.tick := s.env.tick + 1
        last := .next }

/-- R231, R233 (and R232: no other x-axis moves): entry by entry, the sliding window and the timestamp-driven x-axis. -/
def Obligations.HistoryShiftsByOne : Prop :=
  (∀ (ys : List (Option U16)) (s : U16), ys ≠ [] →
    (histPush ys s).length = ys.length ∧
    (∀ i, i + 1 < ys.length → (histPush ys s)[i]? = ys[i + 1]?) ∧
    (histPush ys s)[ys.length - 1]? = some (some s)) ∧
  (∀ (c : Config) (xs : List Rat) (d : Rat),
    (c.tsHost = true → c.xunit = .time → xs ≠ [] →
      (xUpdate c xs d).length = xs.length ∧
      (∀ i x, xs[i + 1]? = some x → (xUpdate c xs d)[i]? = some (x - d)) ∧
      (xUpdate c xs d)[xs.length - 1]? = some 0) ∧
    (c.tsHost = false ∨ c.xunit = .index → xUpdate c xs d = xs))

/-- R231, R243: after any EMITs `e 0 → f 0`, ..., of samples `v 0`, ... in one session, with nothing else written to
HIST_Y in between (`OnlyEmitTouchesTheBuffers`), the window holds the newest `N` of the sentinels and the samples; and the
same of HistPush on lists. -/
def Obligations.EvictionKeepsTheNewest : Prop :=
  (∀ (c : Config) (k : Nat) (s0 s1 : State) (e f : Nat → State) (v : Nat → U16), 1 ≤ c.histN →
    s0.cfg = c → s0.sync.st = 9 → exec .sessionStart s0 = .next s1 → (e 0).sync.histY = s1.sync.histY →
    (∀ j, j ≤ k → (e j).cfg = c ∧ (e j).sync.accS = some (v j) ∧ (c.tsHost = true → (e j).sync.accT ≠ none) ∧
      exec .emit (e j) = .next (f j)) →
    (∀ j, j < k → (e (j + 1)).sync.histY = (f j).sync.histY) →
    (f k).sync.histY.length = c.histN ∧
    (k + 1 ≤ c.histN → (f k).sync.histY =
      List.replicate (c.histN - (k + 1)) none ++ (List.range (k + 1)).map (fun j => some (v j))) ∧
    (c.histN ≤ k + 1 → (f k).sync.histY =
      (List.range c.histN).map (fun j => some (v (k + 1 - c.histN + j))))) ∧
  (∀ (n : Nat) (vs : List U16), 1 ≤ n →
    vs.foldl histPush (List.replicate n none) = (List.replicate n none ++ vs.map some).drop vs.length ∧
    (vs.length ≤ n →
      vs.foldl histPush (List.replicate n none) = List.replicate (n - vs.length) none ++ vs.map some) ∧
    (n ≤ vs.length → vs.foldl histPush (List.replicate n none) = (vs.drop (vs.length - n)).map some))

/-- R238: with `k` entries populated and `S` their sum, the estimate is `k / S`, and `none` where `k` or `S` is 0. -/
def Obligations.RateIsReciprocalOfMean : Prop :=
  ∀ buf : List (Option Rat),
    rateEstimate buf =
      if buf.countP Option.isSome = 0 ∨ (buf.map (fun d => d.getD 0)).sum = 0 then none
      else some ((buf.countP Option.isSome : Rat) / (buf.map (fun d => d.getD 0)).sum)

/-- R237: recording more than `M` intervals overwrites the oldest: after the intervals `ds`, slot `i` holds the last
interval recorded at an index congruent to `i` modulo `M`. -/
def Obligations.RateBufferWraps : Prop :=
  ∀ (m : Nat) (ds : List Rat), 1 ≤ m → ∀ c : Config, c.rateM = m →
    ∀ p, p = ds.foldl (fun (q : List (Option Rat) × Nat) d => (rateRecord q.1 q.2 d, rateNext c q.2))
        (List.replicate m none, 0) →
      p.1.length = m ∧ p.2 = ds.length % m ∧
      ∀ j, j < ds.length → ds.length ≤ j + m → p.1[j % m]? = some ds[j]?

/-- R244: the first two EMITs of a session, of timestamp frames with deltas 10000 us and 20000 us, record 1/100 and
1/50, whose mean is 3/200 and whose rate is 200/3. The two EMITs may see any wall clock (any `env`) and draw from none.
Between them RBUF and RCUR are not written (`OnlyEmitTouchesTheBuffers`). -/
def Obligations.TimestampAccounting : Prop :=
  ∀ (s0 s1 s u : State) (v w : U16), s0.sync.st = 9 → exec .sessionStart s0 = .next s1 →
    s.cfg = s0.cfg → s.cfg.tsHost = true → 2 ≤ s.cfg.rateM →
    s.sync.rbuf = s1.sync.rbuf → s.sync.rcur = s1.sync.rcur →
    s.sync.accS = some v → s.sync.accT = some 10000 →
    ∃ t, exec .emit s = .next t ∧ t.env = s.env ∧
      (u.cfg = t.cfg → u.sync.rbuf = t.sync.rbuf → u.sync.rcur = t.sync.rcur →
        u.sync.accS = some w → u.sync.accT = some 20000 →
        ∃ x, exec .emit u = .next x ∧ x.env = u.env ∧
          x.sync.rbuf = some (1 / 100) :: some (1 / 50) :: List.replicate (s.cfg.rateM - 2) none ∧
          rateSum x.sync.rbuf / 2 = 3 / 200 ∧ x.sync.rate = some (200 / 3))

/-- R239: the rate estimator is advisory: two states that differ only in it step alike. -/
def Obligations.RateNeverAffectsDecoding : Prop :=
  ∀ (i : Instr) (s t s' t' : State), s.withoutRate = t.withoutRate → exec i s = .next s' → exec i t = .next t' →
    s'.withoutRate = t'.withoutRate

/-- R36, R40 to R44, R48, R50 to R52, R65, R75: no instruction's other effects depend on the recorded-only converter
fields, the diagnostic pins or the observation logs. -/
def Obligations.RecordedFieldsAreNeverRead : Prop :=
  ∀ (i : Instr) (s t s' t' : State), s.withoutObservations = t.withoutObservations → exec i s = .next s' →
    exec i t = .next t' → s'.withoutObservations = t'.withoutObservations

/-! Environment events. -/

/-- R160 to R163: the four converter steps, when enabled. -/
def Obligations.ConverterEvents : Prop :=
  ∀ s : State,
    (s.adc.disReq = true →
      exec .adcDisDone s = .next { s with
        adc.enabled := false, adc.rdy := false, adc.start := false, adc.enReq := false, adc.disReq := false
        last := .next }) ∧
    (s.adc.cal = true →
      ∃ f, exec .adcCalDone s = .next { s with
        adc.calFact := f, adc.cal := false
        env.cal := s.env.cal.tail, env.tick := s.env.tick + 1, last := .next }) ∧
    (s.adc.enReq = true → s.adc.disReq = false → s.adc.cal = false → s.adc.dpd = false → s.adc.regen = true →
      exec .adcReady s = .next { s with
        adc.enabled := true, adc.rdy := true, adc.enReq := false, last := .next }) ∧
    (s.adc.start = true → s.adc.enabled = true →
      exec .adcConvDone s = .next { s with
        adc.dr := s.env.analog.headD (Config.freeAnalog s.adc.seqCh1 s.env.tick), adc.eoc := true
        adc.start := s.adc.cont
        env.analog := s.env.analog.tail, env.tick := s.env.tick + 1, last := .next })

/-- R215 to R219: the link's steps, when enabled. -/
def Obligations.LinkEvents : Prop :=
  ∀ s : State,
    (∀ b bs, s.link.q = b :: bs → s.link.closed = false →
      exec .linkDeliver s = .next { s with link.q := bs, sync.rxq := s.sync.rxq ++ [b], last := .next }) ∧
    (∀ b bs, s.link.q = b :: bs → exec .linkDrop s = .next { s with link.q := bs, last := .next }) ∧
    (∀ b bs, s.link.q = b :: bs → s.link.closed = false →
      exec .linkCorrupt s = .next { s with
        link.q := bs, sync.rxq := s.sync.rxq ++ [s.env.noise.headD (Config.freeByte s.env.tick)]
        env.noise := s.env.noise.tail, env.tick := s.env.tick + 1, last := .next }) ∧
    (s.link.closed = false →
      exec .linkInsert s = .next { s with
        sync.rxq := s.sync.rxq ++ [s.env.noise.headD (Config.freeByte s.env.tick)]
        env.noise := s.env.noise.tail, env.tick := s.env.tick + 1, last := .next }) ∧
    (s.link.closed = false →
      exec .linkClose s = .next { s with link.closed := true, sync.eos := true, last := .next })

/-- R220, R302: the host's stop request and the session start, when enabled. -/
def Obligations.HostEvents : Prop :=
  ∀ s : State,
    (s.sync.stop = false → s.sync.st ≠ 9 →
      exec .hostStop s = .next { s with sync.stop := true, last := .next }) ∧
    (s.sync.st = 9 →
      exec .sessionStart s = .next { s with
        sync := { st := 0, accS := none, accT := none, rxq := [], eos := false, stop := false
                  histY := List.replicate s.cfg.histN none
                  histX := (List.range s.cfg.histN).map (xStart s.cfg)
                  rbuf := List.replicate s.cfg.rateM none
                  rcur := 0, rate := none, out := [] }
        link.closed := false
        last := .next }) ∧
    (∀ i : Nat,
      (s.cfg.xunit = .index → xStart s.cfg i = i) ∧
      (s.cfg.xunit = .time → s.cfg.tsHost = false → xStart s.cfg i = i / s.cfg.fs) ∧
      (s.cfg.xunit = .time → s.cfg.tsHost = true → xStart s.cfg i = (i - (s.cfg.histN - 1)) / s.cfg.fs))

/-- R300, R301, R78: the two resets. The power-on draw is a state that R61 admits, and any such state can be drawn. That
the first RESET_POR empties the link, also where host or link events came before it, is log 20 (R78 says first POR, R300
first event). -/
def Obligations.DeviceResets : Prop :=
  ∀ s : State,
    (∃ (tl : U32) (a : Adc), a.consistent = true ∧
      (∀ p ps, s.env.power = p :: ps → p.adc.legal → tl = p.tLast ∧ a = p.adc) ∧
      exec .resetPor s = .next { s with
        seq := { pc := 0x01, v := none, ts := none, tLast := tl, diagConv := false, diagTx := false }
        adc := a
        link := (if s.started = true then s.link else { q := [], sent := [], closed := false })
        env.power := s.env.power.tail, env.tick := s.env.tick + 1
        started := true
        last := .next }) ∧
    (s.started = true →
      exec .resetWarm s = .next { s with
        seq.pc := 0x01, seq.diagConv := false, seq.diagTx := false, last := .next })

/-- R11, and the enabling conditions of R160 to R163, R215 to R220, R301, R302: an event that is not enabled is no step and
nothing changes. That its instruction then answers HOLD is log 11, which agent it names is log 18, and that the device has
no event before its first RESET_POR but that one is log 13. -/
def Obligations.DisabledEventsHold : Prop :=
  ∀ (e : Event) (i : Instr) (s : State), decode (.evt e.code) = .ok i → (devicePick (.evt e) = true → s.started = true) →
    eventEnabled e s = false → exec i s = .next { s with last := .hold (pickAgent (.evt e)) }

/-! Frames over groups of instructions. -/

/-- R95, R165, R277, R215 to R220, R302: an agent writes only what its rules name: SEQ never SYNC's state, the ADC only
the converter, SYNC neither the device nor the link. LINK and HOST write no device state and no log of sent bytes; of
SYNC's fields LINK writes only `rxq` and, by LINK_CLOSE, `eos`, HOST_STOP only `stop`; SESSION_START sets SYNC's own
fields and of the link only `closed`. That no instruction writes the configuration, SESSION_START among them, is R7 as
log 3 reads it. -/
def Obligations.AgentsKeepToTheirState : Prop :=
  ∀ (i : Instr) (s t : State), exec i s = .next t →
    t.cfg = s.cfg ∧
    (i.agent = .seq → t.sync = s.sync) ∧
    (i.agent = .adc → t.sync = s.sync ∧ t.seq = s.seq ∧ t.link = s.link ∧ t.started = s.started) ∧
    (i.agent = .sync → t.seq = s.seq ∧ t.adc = s.adc ∧ t.link = s.link ∧ t.started = s.started) ∧
    (i.agent = .link ∨ i.agent = .host → t.seq = s.seq ∧ t.adc = s.adc ∧ t.link.sent = s.link.sent ∧
      t.started = s.started) ∧
    (i.agent = .link → i ≠ .linkClose →
      t.sync = { s.sync with rxq := t.sync.rxq } ∧ t.link.closed = s.link.closed) ∧
    (i = .linkClose → t.sync = { s.sync with eos := t.sync.eos } ∧ t.link.q = s.link.q) ∧
    (i = .hostStop → t.sync = { s.sync with stop := t.sync.stop } ∧ t.link = s.link) ∧
    (i = .sessionStart → t.link = { s.link with closed := t.link.closed })

/-- R62: no flag of the converter is set or cleared but by the steps R62 names for it (RESET_POR draws them all). -/
def Obligations.FlagsWrittenOnlyAsListed : Prop :=
  ∀ (i : Instr) (s t : State), exec i s = .next t → i ≠ .resetPor →
    (t.adc.cal ≠ s.adc.cal → if t.adc.cal then i = .initCal else i = .adcCalDone) ∧
    (t.adc.enReq ≠ s.adc.enReq → if t.adc.enReq then i = .initEn else i = .adcReady ∨ i = .adcDisDone) ∧
    (t.adc.disReq ≠ s.adc.disReq → if t.adc.disReq then i = .initDisChk else i = .adcDisDone) ∧
    (t.adc.enabled ≠ s.adc.enabled → if t.adc.enabled then i = .adcReady else i = .adcDisDone) ∧
    (t.adc.rdy ≠ s.adc.rdy → if t.adc.rdy then i = .adcReady else i = .adcDisDone) ∧
    (t.adc.start ≠ s.adc.start → if t.adc.start then i = .convStart
      else (i = .adcConvDone ∧ s.adc.cont = false) ∨ i = .adcDisDone) ∧
    (t.adc.eoc ≠ s.adc.eoc → if t.adc.eoc then i = .adcConvDone else i = .convClr)

/-- R212, R230: only EMIT adds to the History Buffer, the Rate Estimator and the output; SESSION_START clears them. So
no partial frame is ever emitted. -/
def Obligations.OnlyEmitTouchesTheBuffers : Prop :=
  ∀ (i : Instr) (s t : State), exec i s = .next t → i ≠ .emit → i ≠ .sessionStart →
    t.sync.histY = s.sync.histY ∧ t.sync.histX = s.sync.histX ∧ t.sync.rbuf = s.sync.rbuf ∧
    t.sync.rcur = s.sync.rcur ∧ t.sync.rate = s.sync.rate ∧ t.sync.out = s.sync.out

/-- R220, R268: a session ends only by end of stream, or by an EMIT that sees the stop request. -/
def Obligations.SessionEndsOnlyByEosOrStop : Prop :=
  ∀ s t : State, step s = .next t → s.sync.st ≠ 9 → t.sync.st = 9 →
    s.pick = .sync ∧
    ((s.sync.st = 8 ∧ s.sync.stop = true) ∨ (s.sync.st.toNat < 8 ∧ s.sync.rxq = [] ∧ s.sync.eos = true))

/-- R214 (a): SYNC is locked only by two consecutive marker bytes: it enters RS0 only from SEEK2 by consuming 0xAA, and
SEEK2 only from SEEK1 by consuming 0xAA, and a step that leaves it in SEEK2 consumes no byte. -/
def Obligations.LockNeedsTwoMarkers : Prop :=
  ∀ s t : State, step s = .next t →
    (s.sync.st ≠ 2 → t.sync.st = 2 → s.sync.st = 1 ∧ s.sync.rxq.head? = some 0xAA ∧ t.sync.rxq = s.sync.rxq.tail) ∧
    (s.sync.st ≠ 1 → t.sync.st = 1 → s.sync.st = 0 ∧ s.sync.rxq.head? = some 0xAA ∧ t.sync.rxq = s.sync.rxq.tail) ∧
    (s.sync.st = 1 → t.sync.st = 1 → s.sync.rxq <+: t.sync.rxq)

/-- R65, R261, R272: no step takes back a fault mark, nor, after the first power-on, a byte from the log of what was
sent. -/
def Obligations.MarksAndLogsOnlyGrow : Prop :=
  ∀ s t : State, step s = .next t →
    s.faults <+: t.faults ∧ (s.started = true → s.link.sent <+: t.link.sent ∧ t.started = true)

/-! Reset. -/

/-- R300, R303, R304: the values the spec gives for the start of a run. The configuration of `State.reset` is the model's
choice (log 4): its resolution is the reference value of R6 and R7, and it is well formed, as R8 and R305 ask. -/
def Obligations.ResetValues : Prop :=
  State.reset.seq.pc = 0x01 ∧ State.reset.seq.v = none ∧ State.reset.seq.ts = none ∧
  State.reset.seq.diagConv = false ∧ State.reset.seq.diagTx = false ∧
  State.reset.link = { q := [], sent := [], closed := false } ∧
  State.reset.sync.st = 9 ∧ State.reset.sync.accS = none ∧ State.reset.sync.accT = none ∧
  State.reset.sync.rxq = [] ∧ State.reset.sync.eos = false ∧ State.reset.sync.stop = false ∧
  (∀ y ∈ State.reset.sync.histY, y = none) ∧ State.reset.sync.histY.length = State.reset.cfg.histN ∧
  (∀ i, i < State.reset.cfg.histN → State.reset.sync.histX[i]? = some (xStart State.reset.cfg i)) ∧
  State.reset.sync.histX.length = State.reset.cfg.histN ∧
  (∀ d ∈ State.reset.sync.rbuf, d = none) ∧ State.reset.sync.rbuf.length = State.reset.cfg.rateM ∧
  State.reset.sync.rcur = 0 ∧ State.reset.sync.rate = none ∧ State.reset.sync.out = [] ∧
  State.reset.faults = [] ∧ State.reset.cfg.res = 12 ∧ State.reset.cfg.Wf

/-- The invariants hold at reset. The converter values of `State.reset` are the model's (log 5). -/
def Obligations.InvariantsAtReset : Prop :=
  DeviceInv State.reset ∧ SeqInv State.reset ∧ SyncInv State.reset ∧ LinkInv State.reset

/-! Invariants every step keeps. -/

/-- R61: every step of every agent keeps the converter consistent. -/
def Obligations.StepKeepsConverterConsistent : Prop :=
  ∀ s t : State, s.adc.consistent = true → step s = .next t → t.adc.consistent = true

/-- R61, R130 to R145: every step keeps what the initialisation has established. -/
def Obligations.StepKeepsDeviceInv : Prop :=
  ∀ s t : State, DeviceInv s → step s = .next t → DeviceInv t

/-- R32 to R34, R154, R156, R194: every step keeps the sequencer's registers and pins as they should be. -/
def Obligations.StepKeepsSeqInv : Prop :=
  ∀ s t : State, SeqInv s → step s = .next t → SeqInv t

/-- R66, R67, R71 to R73, R232, R234, R240, R243: every step keeps SYNC's buffers as they should be. -/
def Obligations.StepKeepsSyncInv : Prop :=
  ∀ s t : State, SyncInv s → step s = .next t → SyncInv t

/-- R64, R65, R92, R219, R302: what is in flight is the end of what was sent. -/
def Obligations.StepKeepsLinkInv : Prop :=
  ∀ s t : State, LinkInv s → step s = .next t → LinkInv t

/-- R261: the two faults are unreachable: no step from a state of the invariants raises one. -/
def Obligations.NoFaultIsReachable : Prop :=
  ∀ s t : State, DeviceInv s → SeqInv s → SyncInv s → step s = .next t → t.faults = s.faults

/-- R145: from pc 0x01 (both resets) and any converter state that R61 admits (its ranges R50 and log 7 with it),
whenever steps of whatever agents bring SEQ to CONV_SEL, the converter is initialised, enabled and ready. -/
def Obligations.InitialisationPostState : Prop :=
  ∀ (k : Nat) (s t : State), s.seq.pc = 0x01 → s.adc.legal → Host.Core.run core k s = .next t → t.seq.pc = 0x10 →
    t.adc.clkAdc = true ∧ t.adc.clkPort = true ∧ t.adc.pinMode = .analog ∧ t.adc.pinDigOff = true ∧
    t.adc.presc = s.cfg.prescSel ∧ t.adc.dpd = false ∧ t.adc.regen = true ∧ t.adc.cal = false ∧
    t.adc.cont = false ∧ t.adc.ressel = s.cfg.res ∧ chanRead t.adc.smp s.cfg.adcCh = s.cfg.smpSel ∧
    t.adc.seqLen = 1 ∧ t.adc.disReq = false ∧ t.adc.enReq = false ∧ t.adc.enabled = true ∧ t.adc.rdy = true ∧
    t.adc.start = false

/-- R214 (c), R104, and the source's round trip: a frame at the head of `sync.rxq`, met in SEEK1, is decoded exactly: its
sample, and in timestamp mode its timestamp's interval, and SYNC is in SEEK1 again at the byte after it. -/
def Obligations.AlignedFrameDecodesExactly : Prop :=
  ∀ (s : State) (v : U16) (ts : U32) (bs : List Byte) (ps : List Pick), s.outside = none → s.sync.st = 0 →
    s.sync.stop = false →
    (s.cfg.tsHost = false → s.sync.rxq = frameBytes v ++ bs → s.env.picks = List.replicate 5 .sync ++ ps →
      ∃ t o, Host.Core.run core 5 s = .next t ∧ t.sync.st = 0 ∧ t.sync.rxq = bs ∧
        t.sync.out = s.sync.out ++ [o] ∧ o.sample = v ∧ t.faults = s.faults) ∧
    (s.cfg.tsHost = true → s.sync.rxq = frameBytes v ++ stampBytes ts ++ bs →
      s.env.picks = List.replicate 9 .sync ++ ps →
      ∃ t o, Host.Core.run core 9 s = .next t ∧ t.sync.st = 0 ∧ t.sync.rxq = bs ∧
        t.sync.out = s.sync.out ++ [o] ∧ o.sample = v ∧
        t.sync.rbuf = s.sync.rbuf.set s.sync.rcur (some ((ts.toNat : Rat) / 1000000)) ∧ t.faults = s.faults)

/-- R164's argument, in single steps: while SEQ waits at a poll, the converter step that ends the wait is enabled; taking
it ends the wait; and every other step leaves SEQ waiting with that step enabled, or is a reset. For the ready poll the
enable must be pending with no disable pending: a disable drawn at power-on can cancel the enable (log 22). -/
def Obligations.WaitingPollsCanComplete : Prop :=
  ∀ s : State, s.outside = none → s.started = true → DeviceInv s →
    ∀ p ∈ [(Report.hangInitDis, Event.adcDisDone), (.hangInitCal, .adcCalDone), (.hangInitRdy, .adcReady),
           (.hangConvEoc, .adcConvDone)],
      s.waiting = some p.1 → (p.1 = .hangInitRdy → s.adc.enReq = true ∧ s.adc.disReq = false) →
      eventEnabled p.2 s = true ∧
      ∀ t, step s = .next t →
        if s.pick = .evt p.2 then t.waiting = none ∧ t.seq.pc = s.seq.pc
        else (t.waiting = some p.1 ∧ eventEnabled p.2 t = true) ∨
          (t.seq.pc = 0x01 ∧ (s.pick = .evt .resetPor ∨ s.pick = .evt .resetWarm))

/-- R221: on a faithful link the bytes not yet consumed or delivered are exactly, in order, what was sent: with no session
start or power-on in between, what SYNC has consumed since, what it holds and what is in flight together are what it held
and what was in flight, followed by what was sent since. -/
def Obligations.FaithfulLinkKeepsTheBytes : Prop :=
  ∀ s t : State, step s = .next t → s.started = true → s.pick ≠ .evt .sessionStart →
    s.pick ≠ .evt .linkDrop → s.pick ≠ .evt .linkCorrupt → s.pick ≠ .evt .linkInsert →
    ∃ eaten sent : List Byte,
      eaten ++ t.sync.rxq ++ t.link.q = s.sync.rxq ++ s.link.q ++ sent ∧
      t.link.sent = s.link.sent ++ sent ∧
      (eaten = [] ∨ (s.pick = .sync ∧ ∃ b, eaten = [b])) ∧ (sent = [] ∨ (s.pick = .seq ∧ ∃ b, sent = [b]))
end

