-- ==== Sys2Proof/Laws/State.lean ====
section
/-! SUPPORT. One lemma per field of State per update of Machine/Ops.lean and Machine/Token.lean, so that no later proof
unfolds an update. -/

namespace Sys2Proof.Machine

@[simp] theorem State.withSeq_cfg (s : State) (q : Seq) : (s.withSeq q).cfg = s.cfg := rfl
@[simp] theorem State.withSeq_seq (s : State) (q : Seq) : (s.withSeq q).seq = q := rfl
@[simp] theorem State.withSeq_adc (s : State) (q : Seq) : (s.withSeq q).adc = s.adc := rfl
@[simp] theorem State.withSeq_link (s : State) (q : Seq) : (s.withSeq q).link = s.link := rfl
@[simp] theorem State.withSeq_sync (s : State) (q : Seq) : (s.withSeq q).sync = s.sync := rfl
@[simp] theorem State.withSeq_env (s : State) (q : Seq) : (s.withSeq q).env = s.env := rfl
@[simp] theorem State.withSeq_started (s : State) (q : Seq) : (s.withSeq q).started = s.started := rfl
@[simp] theorem State.withSeq_faults (s : State) (q : Seq) : (s.withSeq q).faults = s.faults := rfl
@[simp] theorem State.withSeq_last (s : State) (q : Seq) : (s.withSeq q).last = s.last := rfl

@[simp] theorem State.withAdc_cfg (s : State) (a : Adc) : (s.withAdc a).cfg = s.cfg := rfl
@[simp] theorem State.withAdc_seq (s : State) (a : Adc) : (s.withAdc a).seq = s.seq := rfl
@[simp] theorem State.withAdc_adc (s : State) (a : Adc) : (s.withAdc a).adc = a := rfl
@[simp] theorem State.withAdc_link (s : State) (a : Adc) : (s.withAdc a).link = s.link := rfl
@[simp] theorem State.withAdc_sync (s : State) (a : Adc) : (s.withAdc a).sync = s.sync := rfl
@[simp] theorem State.withAdc_env (s : State) (a : Adc) : (s.withAdc a).env = s.env := rfl
@[simp] theorem State.withAdc_started (s : State) (a : Adc) : (s.withAdc a).started = s.started := rfl
@[simp] theorem State.withAdc_faults (s : State) (a : Adc) : (s.withAdc a).faults = s.faults := rfl
@[simp] theorem State.withAdc_last (s : State) (a : Adc) : (s.withAdc a).last = s.last := rfl

@[simp] theorem State.withLink_cfg (s : State) (l : Link) : (s.withLink l).cfg = s.cfg := rfl
@[simp] theorem State.withLink_seq (s : State) (l : Link) : (s.withLink l).seq = s.seq := rfl
@[simp] theorem State.withLink_adc (s : State) (l : Link) : (s.withLink l).adc = s.adc := rfl
@[simp] theorem State.withLink_link (s : State) (l : Link) : (s.withLink l).link = l := rfl
@[simp] theorem State.withLink_sync (s : State) (l : Link) : (s.withLink l).sync = s.sync := rfl
@[simp] theorem State.withLink_env (s : State) (l : Link) : (s.withLink l).env = s.env := rfl
@[simp] theorem State.withLink_started (s : State) (l : Link) : (s.withLink l).started = s.started := rfl
@[simp] theorem State.withLink_faults (s : State) (l : Link) : (s.withLink l).faults = s.faults := rfl
@[simp] theorem State.withLink_last (s : State) (l : Link) : (s.withLink l).last = s.last := rfl

@[simp] theorem State.withSync_cfg (s : State) (y : Sync) : (s.withSync y).cfg = s.cfg := rfl
@[simp] theorem State.withSync_seq (s : State) (y : Sync) : (s.withSync y).seq = s.seq := rfl
@[simp] theorem State.withSync_adc (s : State) (y : Sync) : (s.withSync y).adc = s.adc := rfl
@[simp] theorem State.withSync_link (s : State) (y : Sync) : (s.withSync y).link = s.link := rfl
@[simp] theorem State.withSync_sync (s : State) (y : Sync) : (s.withSync y).sync = y := rfl
@[simp] theorem State.withSync_env (s : State) (y : Sync) : (s.withSync y).env = s.env := rfl
@[simp] theorem State.withSync_started (s : State) (y : Sync) : (s.withSync y).started = s.started := rfl
@[simp] theorem State.withSync_faults (s : State) (y : Sync) : (s.withSync y).faults = s.faults := rfl
@[simp] theorem State.withSync_last (s : State) (y : Sync) : (s.withSync y).last = s.last := rfl

@[simp] theorem State.withEnv_cfg (s : State) (e : Env) : (s.withEnv e).cfg = s.cfg := rfl
@[simp] theorem State.withEnv_seq (s : State) (e : Env) : (s.withEnv e).seq = s.seq := rfl
@[simp] theorem State.withEnv_adc (s : State) (e : Env) : (s.withEnv e).adc = s.adc := rfl
@[simp] theorem State.withEnv_link (s : State) (e : Env) : (s.withEnv e).link = s.link := rfl
@[simp] theorem State.withEnv_sync (s : State) (e : Env) : (s.withEnv e).sync = s.sync := rfl
@[simp] theorem State.withEnv_env (s : State) (e : Env) : (s.withEnv e).env = e := rfl
@[simp] theorem State.withEnv_started (s : State) (e : Env) : (s.withEnv e).started = s.started := rfl
@[simp] theorem State.withEnv_faults (s : State) (e : Env) : (s.withEnv e).faults = s.faults := rfl
@[simp] theorem State.withEnv_last (s : State) (e : Env) : (s.withEnv e).last = s.last := rfl

@[simp] theorem State.goto_cfg (s : State) (c : BitVec 8) : (s.goto c).cfg = s.cfg := rfl
@[simp] theorem State.goto_seq (s : State) (c : BitVec 8) : (s.goto c).seq = { s.seq with pc := c } := rfl
@[simp] theorem State.goto_adc (s : State) (c : BitVec 8) : (s.goto c).adc = s.adc := rfl
@[simp] theorem State.goto_link (s : State) (c : BitVec 8) : (s.goto c).link = s.link := rfl
@[simp] theorem State.goto_sync (s : State) (c : BitVec 8) : (s.goto c).sync = s.sync := rfl
@[simp] theorem State.goto_env (s : State) (c : BitVec 8) : (s.goto c).env = s.env := rfl
@[simp] theorem State.goto_started (s : State) (c : BitVec 8) : (s.goto c).started = s.started := rfl
@[simp] theorem State.goto_faults (s : State) (c : BitVec 8) : (s.goto c).faults = s.faults := rfl
@[simp] theorem State.goto_last (s : State) (c : BitVec 8) : (s.goto c).last = s.last := rfl

@[simp] theorem State.enter_cfg (s : State) (c : BitVec 4) : (s.enter c).cfg = s.cfg := rfl
@[simp] theorem State.enter_seq (s : State) (c : BitVec 4) : (s.enter c).seq = s.seq := rfl
@[simp] theorem State.enter_adc (s : State) (c : BitVec 4) : (s.enter c).adc = s.adc := rfl
@[simp] theorem State.enter_link (s : State) (c : BitVec 4) : (s.enter c).link = s.link := rfl
@[simp] theorem State.enter_sync (s : State) (c : BitVec 4) : (s.enter c).sync = { s.sync with st := c } := rfl
@[simp] theorem State.enter_env (s : State) (c : BitVec 4) : (s.enter c).env = s.env := rfl
@[simp] theorem State.enter_started (s : State) (c : BitVec 4) : (s.enter c).started = s.started := rfl
@[simp] theorem State.enter_faults (s : State) (c : BitVec 4) : (s.enter c).faults = s.faults := rfl
@[simp] theorem State.enter_last (s : State) (c : BitVec 4) : (s.enter c).last = s.last := rfl

@[simp] theorem State.send_cfg (s : State) (b : Byte) : (s.send b).cfg = s.cfg := rfl
@[simp] theorem State.send_seq (s : State) (b : Byte) : (s.send b).seq = s.seq := rfl
@[simp] theorem State.send_adc (s : State) (b : Byte) : (s.send b).adc = s.adc := rfl
@[simp] theorem State.send_link (s : State) (b : Byte) : (s.send b).link = { s.link with q := s.link.q ++ [b], sent := s.link.sent ++ [b] } := rfl
@[simp] theorem State.send_sync (s : State) (b : Byte) : (s.send b).sync = s.sync := rfl
@[simp] theorem State.send_env (s : State) (b : Byte) : (s.send b).env = s.env := rfl
@[simp] theorem State.send_started (s : State) (b : Byte) : (s.send b).started = s.started := rfl
@[simp] theorem State.send_faults (s : State) (b : Byte) : (s.send b).faults = s.faults := rfl
@[simp] theorem State.send_last (s : State) (b : Byte) : (s.send b).last = s.last := rfl

@[simp] theorem State.recv_cfg (s : State) : (s.recv).cfg = s.cfg := rfl
@[simp] theorem State.recv_seq (s : State) : (s.recv).seq = s.seq := rfl
@[simp] theorem State.recv_adc (s : State) : (s.recv).adc = s.adc := rfl
@[simp] theorem State.recv_link (s : State) : (s.recv).link = s.link := rfl
@[simp] theorem State.recv_sync (s : State) : (s.recv).sync = { s.sync with rxq := s.sync.rxq.tail } := rfl
@[simp] theorem State.recv_env (s : State) : (s.recv).env = s.env := rfl
@[simp] theorem State.recv_started (s : State) : (s.recv).started = s.started := rfl
@[simp] theorem State.recv_faults (s : State) : (s.recv).faults = s.faults := rfl
@[simp] theorem State.recv_last (s : State) : (s.recv).last = s.last := rfl

@[simp] theorem State.receive_cfg (s : State) (b : Byte) : (s.receive b).cfg = s.cfg := rfl
@[simp] theorem State.receive_seq (s : State) (b : Byte) : (s.receive b).seq = s.seq := rfl
@[simp] theorem State.receive_adc (s : State) (b : Byte) : (s.receive b).adc = s.adc := rfl
@[simp] theorem State.receive_link (s : State) (b : Byte) : (s.receive b).link = s.link := rfl
@[simp] theorem State.receive_sync (s : State) (b : Byte) : (s.receive b).sync = { s.sync with rxq := s.sync.rxq ++ [b] } := rfl
@[simp] theorem State.receive_env (s : State) (b : Byte) : (s.receive b).env = s.env := rfl
@[simp] theorem State.receive_started (s : State) (b : Byte) : (s.receive b).started = s.started := rfl
@[simp] theorem State.receive_faults (s : State) (b : Byte) : (s.receive b).faults = s.faults := rfl
@[simp] theorem State.receive_last (s : State) (b : Byte) : (s.receive b).last = s.last := rfl

@[simp] theorem State.unqueue_cfg (s : State) : (s.unqueue).cfg = s.cfg := rfl
@[simp] theorem State.unqueue_seq (s : State) : (s.unqueue).seq = s.seq := rfl
@[simp] theorem State.unqueue_adc (s : State) : (s.unqueue).adc = s.adc := rfl
@[simp] theorem State.unqueue_link (s : State) : (s.unqueue).link = { s.link with q := s.link.q.tail } := rfl
@[simp] theorem State.unqueue_sync (s : State) : (s.unqueue).sync = s.sync := rfl
@[simp] theorem State.unqueue_env (s : State) : (s.unqueue).env = s.env := rfl
@[simp] theorem State.unqueue_started (s : State) : (s.unqueue).started = s.started := rfl
@[simp] theorem State.unqueue_faults (s : State) : (s.unqueue).faults = s.faults := rfl
@[simp] theorem State.unqueue_last (s : State) : (s.unqueue).last = s.last := rfl

@[simp] theorem State.putSample_cfg (s : State) (v : Option U16) : (s.putSample v).cfg = s.cfg := rfl
@[simp] theorem State.putSample_seq (s : State) (v : Option U16) : (s.putSample v).seq = s.seq := rfl
@[simp] theorem State.putSample_adc (s : State) (v : Option U16) : (s.putSample v).adc = s.adc := rfl
@[simp] theorem State.putSample_link (s : State) (v : Option U16) : (s.putSample v).link = s.link := rfl
@[simp] theorem State.putSample_sync (s : State) (v : Option U16) : (s.putSample v).sync = { s.sync with accS := v } := rfl
@[simp] theorem State.putSample_env (s : State) (v : Option U16) : (s.putSample v).env = s.env := rfl
@[simp] theorem State.putSample_started (s : State) (v : Option U16) : (s.putSample v).started = s.started := rfl
@[simp] theorem State.putSample_faults (s : State) (v : Option U16) : (s.putSample v).faults = s.faults := rfl
@[simp] theorem State.putSample_last (s : State) (v : Option U16) : (s.putSample v).last = s.last := rfl

@[simp] theorem State.putStamp_cfg (s : State) (v : Option U32) : (s.putStamp v).cfg = s.cfg := rfl
@[simp] theorem State.putStamp_seq (s : State) (v : Option U32) : (s.putStamp v).seq = s.seq := rfl
@[simp] theorem State.putStamp_adc (s : State) (v : Option U32) : (s.putStamp v).adc = s.adc := rfl
@[simp] theorem State.putStamp_link (s : State) (v : Option U32) : (s.putStamp v).link = s.link := rfl
@[simp] theorem State.putStamp_sync (s : State) (v : Option U32) : (s.putStamp v).sync = { s.sync with accT := v } := rfl
@[simp] theorem State.putStamp_env (s : State) (v : Option U32) : (s.putStamp v).env = s.env := rfl
@[simp] theorem State.putStamp_started (s : State) (v : Option U32) : (s.putStamp v).started = s.started := rfl
@[simp] theorem State.putStamp_faults (s : State) (v : Option U32) : (s.putStamp v).faults = s.faults := rfl
@[simp] theorem State.putStamp_last (s : State) (v : Option U32) : (s.putStamp v).last = s.last := rfl

@[simp] theorem State.afterPowerUp_cfg (s : State) : (s.afterPowerUp).cfg = s.cfg := rfl
@[simp] theorem State.afterPowerUp_seq (s : State) : (s.afterPowerUp).seq = s.seq := rfl
@[simp] theorem State.afterPowerUp_adc (s : State) : (s.afterPowerUp).adc = s.adc := rfl
@[simp] theorem State.afterPowerUp_link (s : State) : (s.afterPowerUp).link = s.link := rfl
@[simp] theorem State.afterPowerUp_sync (s : State) : (s.afterPowerUp).sync = s.sync := rfl
@[simp] theorem State.afterPowerUp_env (s : State) : (s.afterPowerUp).env = { s.env with power := s.env.power.tail, tick := s.env.tick + 1 } := rfl
@[simp] theorem State.afterPowerUp_started (s : State) : (s.afterPowerUp).started = s.started := rfl
@[simp] theorem State.afterPowerUp_faults (s : State) : (s.afterPowerUp).faults = s.faults := rfl
@[simp] theorem State.afterPowerUp_last (s : State) : (s.afterPowerUp).last = s.last := rfl

@[simp] theorem State.afterCal_cfg (s : State) : (s.afterCal).cfg = s.cfg := rfl
@[simp] theorem State.afterCal_seq (s : State) : (s.afterCal).seq = s.seq := rfl
@[simp] theorem State.afterCal_adc (s : State) : (s.afterCal).adc = s.adc := rfl
@[simp] theorem State.afterCal_link (s : State) : (s.afterCal).link = s.link := rfl
@[simp] theorem State.afterCal_sync (s : State) : (s.afterCal).sync = s.sync := rfl
@[simp] theorem State.afterCal_env (s : State) : (s.afterCal).env = { s.env with cal := s.env.cal.tail, tick := s.env.tick + 1 } := rfl
@[simp] theorem State.afterCal_started (s : State) : (s.afterCal).started = s.started := rfl
@[simp] theorem State.afterCal_faults (s : State) : (s.afterCal).faults = s.faults := rfl
@[simp] theorem State.afterCal_last (s : State) : (s.afterCal).last = s.last := rfl

@[simp] theorem State.afterAnalog_cfg (s : State) : (s.afterAnalog).cfg = s.cfg := rfl
@[simp] theorem State.afterAnalog_seq (s : State) : (s.afterAnalog).seq = s.seq := rfl
@[simp] theorem State.afterAnalog_adc (s : State) : (s.afterAnalog).adc = s.adc := rfl
@[simp] theorem State.afterAnalog_link (s : State) : (s.afterAnalog).link = s.link := rfl
@[simp] theorem State.afterAnalog_sync (s : State) : (s.afterAnalog).sync = s.sync := rfl
@[simp] theorem State.afterAnalog_env (s : State) : (s.afterAnalog).env = { s.env with analog := s.env.analog.tail, tick := s.env.tick + 1 } := rfl
@[simp] theorem State.afterAnalog_started (s : State) : (s.afterAnalog).started = s.started := rfl
@[simp] theorem State.afterAnalog_faults (s : State) : (s.afterAnalog).faults = s.faults := rfl
@[simp] theorem State.afterAnalog_last (s : State) : (s.afterAnalog).last = s.last := rfl

@[simp] theorem State.afterTmr_cfg (s : State) : (s.afterTmr).cfg = s.cfg := rfl
@[simp] theorem State.afterTmr_seq (s : State) : (s.afterTmr).seq = s.seq := rfl
@[simp] theorem State.afterTmr_adc (s : State) : (s.afterTmr).adc = s.adc := rfl
@[simp] theorem State.afterTmr_link (s : State) : (s.afterTmr).link = s.link := rfl
@[simp] theorem State.afterTmr_sync (s : State) : (s.afterTmr).sync = s.sync := rfl
@[simp] theorem State.afterTmr_env (s : State) : (s.afterTmr).env = { s.env with tmr := s.env.tmr.tail, tick := s.env.tick + 1 } := rfl
@[simp] theorem State.afterTmr_started (s : State) : (s.afterTmr).started = s.started := rfl
@[simp] theorem State.afterTmr_faults (s : State) : (s.afterTmr).faults = s.faults := rfl
@[simp] theorem State.afterTmr_last (s : State) : (s.afterTmr).last = s.last := rfl

@[simp] theorem State.afterNoise_cfg (s : State) : (s.afterNoise).cfg = s.cfg := rfl
@[simp] theorem State.afterNoise_seq (s : State) : (s.afterNoise).seq = s.seq := rfl
@[simp] theorem State.afterNoise_adc (s : State) : (s.afterNoise).adc = s.adc := rfl
@[simp] theorem State.afterNoise_link (s : State) : (s.afterNoise).link = s.link := rfl
@[simp] theorem State.afterNoise_sync (s : State) : (s.afterNoise).sync = s.sync := rfl
@[simp] theorem State.afterNoise_env (s : State) : (s.afterNoise).env = { s.env with noise := s.env.noise.tail, tick := s.env.tick + 1 } := rfl
@[simp] theorem State.afterNoise_started (s : State) : (s.afterNoise).started = s.started := rfl
@[simp] theorem State.afterNoise_faults (s : State) : (s.afterNoise).faults = s.faults := rfl
@[simp] theorem State.afterNoise_last (s : State) : (s.afterNoise).last = s.last := rfl

@[simp] theorem State.afterWall_cfg (s : State) : (s.afterWall).cfg = s.cfg := rfl
@[simp] theorem State.afterWall_seq (s : State) : (s.afterWall).seq = s.seq := rfl
@[simp] theorem State.afterWall_adc (s : State) : (s.afterWall).adc = s.adc := rfl
@[simp] theorem State.afterWall_link (s : State) : (s.afterWall).link = s.link := rfl
@[simp] theorem State.afterWall_sync (s : State) : (s.afterWall).sync = s.sync := rfl
@[simp] theorem State.afterWall_env (s : State) : (s.afterWall).env = { s.env with wall := s.env.wall.tail, tick := s.env.tick + 1 } := rfl
@[simp] theorem State.afterWall_started (s : State) : (s.afterWall).started = s.started := rfl
@[simp] theorem State.afterWall_faults (s : State) : (s.afterWall).faults = s.faults := rfl
@[simp] theorem State.afterWall_last (s : State) : (s.afterWall).last = s.last := rfl

@[simp] theorem State.afterPick_cfg (s : State) : (s.afterPick).cfg = s.cfg := rfl
@[simp] theorem State.afterPick_seq (s : State) : (s.afterPick).seq = s.seq := rfl
@[simp] theorem State.afterPick_adc (s : State) : (s.afterPick).adc = s.adc := rfl
@[simp] theorem State.afterPick_link (s : State) : (s.afterPick).link = s.link := rfl
@[simp] theorem State.afterPick_sync (s : State) : (s.afterPick).sync = s.sync := rfl
@[simp] theorem State.afterPick_env (s : State) : (s.afterPick).env = { s.env with picks := s.env.picks.tail, tick := s.env.tick + 1 } := rfl
@[simp] theorem State.afterPick_started (s : State) : (s.afterPick).started = s.started := rfl
@[simp] theorem State.afterPick_faults (s : State) : (s.afterPick).faults = s.faults := rfl
@[simp] theorem State.afterPick_last (s : State) : (s.afterPick).last = s.last := rfl

end Sys2Proof.Machine
end

