-- ==== Sys2Proof/Laws/Ops.lean ====
section
/-! SUPPORT. What each shared operation can do, once: the ways a step ends, the draws, the refused states, decoding, and
the inversion of a step. -/

namespace Sys2Proof.Machine

/-! Ways a step ends. -/

@[simp] theorem done_eq (s : State) : done s = .next { s with last := .next } := rfl

@[simp] theorem hold_eq (a : Agent) (s : State) : hold a s = .next { s with last := .hold a } := rfl

@[simp] theorem raise_eq (f : Fault) (s : State) :
    raise f s = .next { s with faults := s.faults ++ [f], last := .fault f } := rfl

/-! Converter conditions, as propositions. -/

theorem inUse_iff (a : Adc) : a.inUse = true ↔ a.enabled = true ∨ a.enReq = true := by
  simp [Adc.inUse]

theorem disableDone_iff (a : Adc) : a.disableDone = true ↔ a.enabled = false ∧ a.disReq = false := by
  simp [Adc.disableDone]

theorem canReady_iff (a : Adc) :
    a.canReady = true ↔ a.enReq = true ∧ a.disReq = false ∧ a.cal = false ∧ a.dpd = false ∧ a.regen = true := by
  simp [Adc.canReady, and_assoc]

theorem canConvert_iff (a : Adc) : a.canConvert = true ↔ a.start = true ∧ a.enabled = true := by
  simp [Adc.canConvert]

theorem enableForbidden_iff (a : Adc) : a.enableForbidden = true ↔ a.cal = true ∨ a.enabled = true := by
  simp [Adc.enableForbidden]

theorem startForbidden_iff (a : Adc) : a.startForbidden = true ↔ a.enabled = false ∨ a.rdy = false := by
  simp [Adc.startForbidden]

/-- R61, clause by clause. -/
theorem consistent_iff (a : Adc) :
    a.consistent = true ↔
      (a.rdy = true → a.enabled = true) ∧ (a.start = true → a.enabled = true) ∧
      (a.enabled = true → a.dpd = false ∧ a.regen = true) ∧ (a.cal = true → a.enabled = false) := by
  cases a
  simp [Adc.consistent]
  grind

/-! Decoding. -/

/-- What a SEQ code decodes to stands in the table beside it (R105). -/
theorem decodeSeq_mem {c : BitVec 8} {i : Instr} (h : decodeSeq c = .ok i) : (c, i) ∈ seqTable := by
  unfold decodeSeq at h
  split at h
  · next r hr =>
    have hc : r.1 = c := by simpa using List.find?_some hr
    have hm := List.mem_of_find?_eq_some hr
    cases h
    subst hc
    exact hm
  · cases h

/-- A listed state decodes (R105). -/
theorem decodeSeq_of_listed {c : BitVec 8} (h : listedPc c = true) : ∃ i, decodeSeq c = .ok i := by
  unfold listedPc at h
  unfold decodeSeq
  obtain ⟨r, hr⟩ := Option.isSome_iff_exists.1 h
  exact ⟨r.2, by rw [hr]⟩

/-- An unlisted state does not decode (R111 (c)). -/
theorem decodeSeq_of_unlisted {c : BitVec 8} (h : listedPc c = false) : decodeSeq c = .error (.noSeqState c) := by
  unfold listedPc at h
  unfold decodeSeq
  rw [Option.isSome_eq_false_iff.1 h |> Option.isNone_iff_eq_none.1]

/-! States outside the model. -/

theorem brokenClause_eq_none_iff (c : Config) : brokenClause c = none ↔ c.Wf := by
  unfold brokenClause Config.Wf
  repeat' split
  all_goals first | (simp; omega) | (simp; simp_all; omega) | simp_all

/-- A state of the model: a well-formed configuration and listed states (R262). -/
theorem outside_eq_none_iff (s : State) :
    s.outside = none ↔ s.cfg.Wf ∧ listedPc s.seq.pc = true ∧ listedSt s.sync.st = true := by
  unfold State.outside
  rcases h : brokenClause s.cfg with _ | c
  · have := (brokenClause_eq_none_iff s.cfg).1 h
    cases h1 : listedPc s.seq.pc <;> cases h2 : listedSt s.sync.st <;> simp
    exact this
  · have : ¬ s.cfg.Wf := fun hw => by simp [(brokenClause_eq_none_iff s.cfg).2 hw] at h
    exact ⟨fun h => (Option.some_ne_none _ h).elim, fun h => (this h.1).elim⟩

/-! Inversion of a step. -/

/-- Taking the pick does not change what a pick fetches. -/
@[simp] theorem fetch_afterPick (s : State) (p : Pick) : s.afterPick.fetch p = s.fetch p := by
  cases p <;> rfl

/-- Everything `runPick` can do where it answers a next state: hold before the first power-on, or run what the picked
code word decodes to. -/
theorem runPick_next {p : Pick} {s t : State} (h : runPick p s = .next t) :
    (devicePick p = true ∧ s.started = false ∧ t = { s with last := .hold (pickAgent p) }) ∨
    (¬ (devicePick p = true ∧ s.started = false) ∧ ∃ i, decode (s.fetch p) = .ok i ∧ exec i s = .next t) := by
  unfold runPick at h
  by_cases hc : devicePick p = true ∧ s.started = false
  · left
    rw [if_pos (by simp [hc.1, hc.2])] at h
    exact ⟨hc.1, hc.2, (Host.Outcome.next.inj h).symm⟩
  · right
    have : ¬ ((devicePick p && !s.started) = true) := by simpa using hc
    rw [if_neg this] at h
    refine ⟨hc, ?_⟩
    split at h
    · next i hi => exact ⟨i, hi, h⟩
    · cases h

/-- Everything a step can do where it answers a next state. -/
theorem step_next {s t : State} (h : step s = .next t) :
    s.outside = none ∧
    ((devicePick s.pick = true ∧ s.started = false ∧ t = { s.afterPick with last := .hold (pickAgent s.pick) }) ∨
     (¬ (devicePick s.pick = true ∧ s.started = false) ∧
      ∃ i, decode (s.fetch s.pick) = .ok i ∧ exec i s.afterPick = .next t)) := by
  unfold step at h
  split at h
  · cases h
  · next ho =>
    have := runPick_next h
    rw [fetch_afterPick] at this
    exact ⟨ho, this⟩

end Sys2Proof.Machine
end

