-- ==== Sys2Proof/Laws/Adc.lean ====
section
/-! SUPPORT. The channel store `SMP[c]` (R51, log 7) and the restricted power-up draw (R39). -/

namespace Sys2Proof.Machine

theorem chanRead_write_same (m : ChanMap) (c v : Nat) (h : chanWf m) : chanRead (chanWrite m c v) c = v := by
  induction m with
  | nil => by_cases hv : v = 0 <;> simp [chanWrite, chanRead, hv]
  | cons p m ih =>
    obtain ⟨k, w⟩ := p
    have hm : chanWf m := ⟨h.1.tail, fun q hq => h.2 q (List.mem_cons_of_mem _ hq)⟩
    have hlt : ∀ q ∈ m, k < q.1 := fun q hq => (List.pairwise_cons.1 h.1).1 q hq
    have habsent : ∀ (n : ChanMap), (∀ q ∈ n, c < q.1) → chanRead n c = 0 := by
      intro n
      induction n with
      | nil => intro _; rfl
      | cons q n ihn =>
        intro hq
        have h1 := hq q (by simp)
        simp only [chanRead]
        rw [if_neg (by omega)]
        exact ihn (fun r hr => hq r (List.mem_cons_of_mem _ hr))
    unfold chanWrite
    by_cases h1 : c < k
    · by_cases hv : v = 0
      · simp only [h1, hv, if_true]
        exact habsent _ (by
          intro q hq
          rcases List.mem_cons.1 hq with rfl | hq
          · exact h1
          · have := hlt q hq; omega)
      · simp [h1, hv, chanRead]
    · by_cases h2 : c = k
      · subst h2
        by_cases hv : v = 0
        · simp only [lt_irrefl, if_false, hv, if_true]
          exact habsent m hlt
        · simp [hv, chanRead]
      · simp only [h1, if_false, h2, chanRead]
        rw [if_neg (fun h => h2 h.symm)]
        exact ih hm

theorem chanRead_write_other (m : ChanMap) (c v d : Nat) (hd : d ≠ c) :
    chanRead (chanWrite m c v) d = chanRead m d := by
  induction m with
  | nil => by_cases hv : v = 0 <;> simp [chanWrite, chanRead, hv, hd.symm]
  | cons p m ih =>
    obtain ⟨k, w⟩ := p
    unfold chanWrite
    by_cases h1 : c < k
    · by_cases hv : v = 0 <;> simp [h1, hv, chanRead, hd.symm]
    · by_cases h2 : c = k
      · subst h2
        by_cases hv : v = 0 <;> simp [hv, chanRead, hd.symm]
      · simp only [h1, if_false, h2, chanRead, ih]

/-- The keys of a written store: those it had, and perhaps the one written. -/
theorem mem_chanWrite {m : ChanMap} {c v : Nat} {q : Nat × Nat} (h : q ∈ chanWrite m c v) :
    q ∈ m ∨ (q = (c, v) ∧ v ≠ 0) := by
  induction m with
  | nil => by_cases hv : v = 0 <;> simp_all [chanWrite]
  | cons p m ih =>
    obtain ⟨k, w⟩ := p
    unfold chanWrite at h
    split at h
    · split at h
      · exact .inl h
      · next hv => rcases List.mem_cons.1 h with h | h
                   · exact .inr ⟨h, hv⟩
                   · exact .inl h
    · split at h
      · split at h
        · exact .inl (List.mem_cons_of_mem _ h)
        · next hv => rcases List.mem_cons.1 h with h | h
                     · exact .inr ⟨h, hv⟩
                     · exact .inl (List.mem_cons_of_mem _ h)
      · rcases List.mem_cons.1 h with h | h
        · exact .inl (h ▸ List.mem_cons_self)
        · rcases ih h with h | h
          · exact .inl (List.mem_cons_of_mem _ h)
          · exact .inr h

/-- Every write keeps the canonical form. -/
theorem chanWrite_wf {m : ChanMap} (c v : Nat) (h : chanWf m) : chanWf (chanWrite m c v) := by
  refine ⟨?_, fun q hq => ?_⟩
  · induction m with
    | nil => by_cases hv : v = 0 <;> simp [chanWrite, hv]
    | cons p m ih =>
      obtain ⟨k, w⟩ := p
      have hm : chanWf m := ⟨h.1.tail, fun q hq => h.2 q (List.mem_cons_of_mem _ hq)⟩
      have hlt := (List.pairwise_cons.1 h.1).1
      unfold chanWrite
      split
      · next h1 =>
        split
        · exact h.1
        · refine List.pairwise_cons.2 ⟨fun q hq => ?_, h.1⟩
          rcases List.mem_cons.1 hq with rfl | hq
          · exact h1
          · exact lt_trans h1 (hlt q hq)
      · next h1 =>
        split
        · next h2 =>
          split
          · exact h.1.tail
          · exact List.pairwise_cons.2 ⟨fun q hq => h2 ▸ hlt q hq, h.1.tail⟩
        · next h2 =>
          refine List.pairwise_cons.2 ⟨fun q hq => ?_, ih hm⟩
          rcases mem_chanWrite hq with hq | ⟨rfl, -⟩
          · exact hlt q hq
          · show k < c
            omega
  · rcases mem_chanWrite hq with hq | ⟨rfl, hv⟩
    · exact h.2 q hq
    · exact hv

/-- The store after reset is canonical. -/
theorem reset_smp_wf : chanWf State.reset.adc.smp := ⟨List.Pairwise.nil, fun _ h => nomatch h⟩

/-- Any list of pairs is brought into canonical form. -/
theorem chanCanon_wf (m : ChanMap) : chanWf (chanCanon m) := by
  induction m with
  | nil => exact ⟨List.Pairwise.nil, by simp [chanCanon]⟩
  | cons p m ih => exact chanWrite_wf p.1 p.2 ih

end Sys2Proof.Machine
end

