-- ==== Sys2Proof/Laws/Frames.lean ====
section
/-! SUPPORT. What the ledger of the frames in `link.sent` can do. -/

namespace Sys2Proof.Machine

theorem trace_succ (r : Nat → State) (n : Nat) : trace r (n + 1) = trace r n ++ [r n] := by
  simp [trace, List.range_succ]

/-- One more state takes the ledger one step on. -/
theorem ledger_trace_succ (r : Nat → State) (n : Nat) (l : Ledger) :
    (trace r (n + 1)).foldl Ledger.after l = Ledger.after ((trace r n).foldl Ledger.after l) (r n) := by
  rw [trace_succ, List.foldl_append]
  rfl

/-- The ledger after one state: a reset drops the frame under way, TX_SYNC0 opens one, its last byte enters it, and any
other step leaves the ledger as it is. -/
theorem ledger_after_cases (l : Ledger) (s : State) :
    (s.cuts = true ∧ l.after s = (none, l.2)) ∨
    (s.cuts = false ∧ s.opensFrame = true ∧ l.after s = (some s.link.sent.length, l.2)) ∨
    (s.cuts = false ∧ s.opensFrame = false ∧ s.endsFrame = true ∧ l.after s = (none, l.2 ++ l.1.toList)) ∨
    (s.cuts = false ∧ s.opensFrame = false ∧ s.endsFrame = false ∧ l.after s = l) := by
  unfold Ledger.after
  cases s.cuts <;> cases s.opensFrame <;> cases s.endsFrame <;> simp

/-- A whole frame stays one: the positions entered are never taken back. -/
theorem ledger_after_grows (l : Ledger) (s : State) : l.2 <+: (l.after s).2 := by
  rcases ledger_after_cases l s with h | h | h | h
  · rw [h.2]
  · rw [h.2.2]
  · rw [h.2.2.2]; exact List.prefix_append _ _
  · rw [h.2.2.2]

end Sys2Proof.Machine
end

