-- ==== Sys2Proof/Laws/PerInstr.lean ====
section
/-! SUPPORT. The family AgentFormat: the format of an instruction's code word tells which half of the block moves
(R105 to R110). -/

namespace Sys2Proof.Laws.AgentFormat

/-- The format of the code word of `i` and the agent of `i` go together: format SEQ is SEQ's; TOK and SYNC_INT are SYNC's;
format EVT is the environment's, the two device resets among them. -/
def Statement (i : Instr) : Prop :=
  match encode i with
  | .seq _ => i.agent = .seq ∧ i ≠ .resetPor ∧ i ≠ .resetWarm
  | .tok _ => i.agent = .sync
  | .syncInt _ => i.agent = .sync
  | .evt _ => i.agent = .adc ∨ i.agent = .link ∨ i.agent = .host ∨ i = .resetPor ∨ i = .resetWarm

/-- The case split, once. -/
theorem agent_of_format (i : Instr) : Statement i := by
  cases i <;> simp [Statement, encode, Instr.agent]

theorem initClk : Statement .initClk := agent_of_format _
theorem initPin : Statement .initPin := agent_of_format _
theorem initPresc : Statement .initPresc := agent_of_format _
theorem initDisChk : Statement .initDisChk := agent_of_format _
theorem initDisWait : Statement .initDisWait := agent_of_format _
theorem initPwr : Statement .initPwr := agent_of_format _
theorem initSettle : Statement .initSettle := agent_of_format _
theorem initCal : Statement .initCal := agent_of_format _
theorem initCalWait : Statement .initCalWait := agent_of_format _
theorem initMode : Statement .initMode := agent_of_format _
theorem initSmp : Statement .initSmp := agent_of_format _
theorem initSeqlen : Statement .initSeqlen := agent_of_format _
theorem initEn : Statement .initEn := agent_of_format _
theorem initRdyWait : Statement .initRdyWait := agent_of_format _
theorem convSel : Statement .convSel := agent_of_format _
theorem convClr : Statement .convClr := agent_of_format _
theorem convStart : Statement .convStart := agent_of_format _
theorem convWait : Statement .convWait := agent_of_format _
theorem convRead : Statement .convRead := agent_of_format _
theorem txSync0 : Statement .txSync0 := agent_of_format _
theorem txSync1 : Statement .txSync1 := agent_of_format _
theorem txLo : Statement .txLo := agent_of_format _
theorem txHi : Statement .txHi := agent_of_format _
theorem txTs0 : Statement .txTs0 := agent_of_format _
theorem txTs1 : Statement .txTs1 := agent_of_format _
theorem txTs2 : Statement .txTs2 := agent_of_format _
theorem txTs3 : Statement .txTs3 := agent_of_format _
theorem txEnd : Statement .txEnd := agent_of_format _
theorem delay : Statement .delay := agent_of_format _
theorem seek1Sync : Statement .seek1Sync := agent_of_format _
theorem seek1Discard (b : Byte) : Statement (.seek1Discard b) := agent_of_format _
theorem seek2Sync : Statement .seek2Sync := agent_of_format _
theorem seek2Miss (b : Byte) : Statement (.seek2Miss b) := agent_of_format _
theorem rs0Lo (b : Byte) : Statement (.rs0Lo b) := agent_of_format _
theorem rs1Hi (b : Byte) : Statement (.rs1Hi b) := agent_of_format _
theorem rt0B0 (b : Byte) : Statement (.rt0B0 b) := agent_of_format _
theorem rt1B1 (b : Byte) : Statement (.rt1B1 b) := agent_of_format _
theorem rt2B2 (b : Byte) : Statement (.rt2B2 b) := agent_of_format _
theorem rt3B3 (b : Byte) : Statement (.rt3B3 b) := agent_of_format _
theorem emit : Statement .emit := agent_of_format _
theorem eosEnd (st : BitVec 3) : Statement (.eosEnd st) := agent_of_format _
theorem ended : Statement .ended := agent_of_format _
theorem adcDisDone : Statement .adcDisDone := agent_of_format _
theorem adcCalDone : Statement .adcCalDone := agent_of_format _
theorem adcReady : Statement .adcReady := agent_of_format _
theorem adcConvDone : Statement .adcConvDone := agent_of_format _
theorem linkDeliver : Statement .linkDeliver := agent_of_format _
theorem linkDrop : Statement .linkDrop := agent_of_format _
theorem linkCorrupt : Statement .linkCorrupt := agent_of_format _
theorem linkInsert : Statement .linkInsert := agent_of_format _
theorem linkClose : Statement .linkClose := agent_of_format _
theorem hostStop : Statement .hostStop := agent_of_format _
theorem resetPor : Statement .resetPor := agent_of_format _
theorem resetWarm : Statement .resetWarm := agent_of_format _
theorem sessionStart : Statement .sessionStart := agent_of_format _

end Sys2Proof.Laws.AgentFormat
end

