-- ==== Sys2Proof/Tests/Slice0.lean ====
section
/-! SUPPORT. The model's own tests. Expected values are those of spec/95_test_vectors.md (V- and P- names in the
comments) and of the tables of spec/30_encoding.md. The second half holds one witness per obligation with hypotheses: a
concrete state that meets them. -/

namespace Sys2Proof.Tests

set_option maxRecDepth 8000
set_option Elab.async false

open Sys2Proof.Machine

/-- The next state of an outcome, if it is one. -/
def nxt : Result → Option State
  | .next t => some t
  | _ => none

/-- A field of the next state. -/
def get {α : Type} (f : State → α) (r : Result) : Option α := (nxt r).map f

/-- Reset, with SEQ at `c`. -/
def seqAt (c : BitVec 8) : State := State.reset.goto c

/-- Reset, with the converter changed. -/
def conv (f : Adc → Adc) : State := { State.reset with adc := f Adc.reset }

/-- Reset, with SYNC in state `st` and `rxq` waiting. -/
def syncAt (st : BitVec 4) (rxq : List Byte) : State :=
  { State.reset with sync := { State.reset.sync with st := st, rxq := rxq } }

/-- Reset, with the configuration changed. -/
def conf (f : Config → Config) : State := { State.reset with cfg := f Config.reference }

/-- `s` with a schedule. -/
def plan (s : State) (ps : List Pick) : State := { s with env := { s.env with picks := ps } }

/-! Words of spec/30_encoding.md. -/

/-- R105: the last state of each SEQ family and both sides of each gap. -/
theorem test_decode_seq :
    decode (.seq 0b00000001#8) = .ok .initClk ∧ decode (.seq 0b00001110#8) = .ok .initRdyWait ∧
    decode (.seq 0b00001111#8) = .error (.noSeqState 0x0F) ∧
    decode (.seq 0b00010000#8) = .ok .convSel ∧ decode (.seq 0b00010100#8) = .ok .convRead ∧
    decode (.seq 0b00010101#8) = .error (.noSeqState 0x15) ∧
    decode (.seq 0b00100000#8) = .ok .txSync0 ∧ decode (.seq 0b00101000#8) = .ok .txEnd ∧
    decode (.seq 0b00110000#8) = .ok .delay ∧ decode (.seq 0b00000000#8) = .error (.noSeqState 0x00) := by decide

/-- R108: V-T1 to V-T4 and the tokens of the other states. -/
theorem test_decode_tok :
    decode (.tok 0b000010101010#12) = .ok .seek1Sync ∧ decode (.tok 0b000010101011#12) = .ok (.seek1Discard 0xAB) ∧
    decode (.tok 0b000110101010#12) = .ok .seek2Sync ∧ decode (.tok 0b000100000000#12) = .ok (.seek2Miss 0x00) ∧
    decode (.tok 0b001010101010#12) = .ok (.rs0Lo 0xAA) ∧ decode (.tok 0b001100000101#12) = .ok (.rs1Hi 0x05) ∧
    decode (.tok 0b010000010000#12) = .ok (.rt0B0 0x10) ∧ decode (.tok 0b010100100111#12) = .ok (.rt1B1 0x27) ∧
    decode (.tok 0b011010101010#12) = .ok (.rt2B2 0xAA) ∧ decode (.tok 0b011110101010#12) = .ok (.rt3B3 0xAA) ∧
    decode (.tok 0b100010101010#12) = .error (.noTokenState 0x8AA) := by decide

/-- R109. -/
theorem test_decode_sync_int :
    decode (.syncInt 0b1000#4) = .ok .emit ∧ decode (.syncInt 0b1001#4) = .ok .ended ∧
    decode (.syncInt 0b0000#4) = .ok (.eosEnd 0) ∧ decode (.syncInt 0b0111#4) = .ok (.eosEnd 7) ∧
    decode (.syncInt 0b1010#4) = .error (.noSyncStep 10) := by decide

/-- R110. -/
theorem test_decode_evt :
    decode (.evt 0b10000000#8) = .ok .adcDisDone ∧ decode (.evt 0b10000011#8) = .ok .adcConvDone ∧
    decode (.evt 0b10010000#8) = .ok .linkDeliver ∧ decode (.evt 0b10010100#8) = .ok .linkClose ∧
    decode (.evt 0b10100000#8) = .ok .hostStop ∧ decode (.evt 0b10100011#8) = .ok .sessionStart ∧
    decode (.evt 0b10000100#8) = .error (.noEvent 0x84) := by decide

/-- The encoder on the same words. -/
theorem test_encode :
    encode .initCal = .seq 0b00001000#8 ∧ encode (.rt1B1 0x27) = .tok 0b010100100111#12 ∧
    encode (.eosEnd 3) = .syncInt 0b0011#4 ∧ encode .linkCorrupt = .evt 0b10010010#8 := by decide

/-- Opcode-table words. -/
theorem test_decode_table_word :
    decodeTableWord 8 0x20 = some .txSync0 ∧ decodeTableWord 12 0x305 = some (.rs1Hi 0x05) ∧
    decodeTableWord 16 0x0AA = some .seek1Sync ∧ decodeTableWord 4 0x8 = some .emit ∧
    decodeTableWord 8 0xA1 = some .resetPor ∧ decodeTableWord 8 0x15 = none := by decide

/-- R107, R108: a marker byte is no SEEK1_DISCARD and no SEEK2_MISS. -/
theorem test_wellFormed :
    WellFormed (.seek1Discard 0xAA) = false ∧ WellFormed (.seek2Miss 0xAA) = false ∧
    WellFormed (.seek1Discard 0xAB) = true ∧ WellFormed (.seek2Miss 0x00) = true ∧ WellFormed .emit = true := by decide

/-! Single steps of SEQ. -/

/-- V-I1, V-I2. -/
theorem test_init_clk_pin :
    get (fun t => (t.adc.clkAdc, t.adc.clkPort, t.seq.pc)) (exec .initClk (seqAt 1)) = some (true, true, 0x02) ∧
    get (fun t => (t.adc.pinMode, t.adc.pinDigOff, t.seq.pc)) (exec .initPin (seqAt 2)) = some (.analog, true, 0x03) := by
  decide

/-- V-I3: the write is taken while enabled. -/
theorem test_init_presc :
    get (fun t => (t.adc.presc, t.adc.enabled, t.seq.pc))
      (exec .initPresc { conf (fun c => { c with prescSel := 9 }) with adc := { Adc.reset with enabled := true } }) =
      some (9, true, 0x04) := by decide

/-- V-I4, V-I5, V-I6. -/
theorem test_init_dis_chk :
    get (fun t => (t.adc.disReq, t.seq.pc)) (exec .initDisChk State.reset) = some (false, 0x06) ∧
    get (fun t => (t.adc.disReq, t.seq.pc)) (exec .initDisChk (conv fun a => { a with enabled := true, rdy := true })) =
      some (true, 0x05) ∧
    get (fun t => (t.adc.disReq, t.seq.pc)) (exec .initDisChk (conv fun a => { a with enReq := true })) =
      some (true, 0x05) := by decide

/-- V-I7, V-I9. -/
theorem test_init_dis_wait :
    get (fun t => t.seq.pc) (exec .initDisWait ((conv fun a => { a with enabled := true, disReq := true }).goto 5)) =
      some 0x05 ∧
    get (fun t => t.seq.pc) (exec .initDisWait (seqAt 5)) = some 0x06 := by decide

/-- V-I10, V-I11. -/
theorem test_init_pwr_settle :
    get (fun t => (t.adc.dpd, t.adc.regen, t.seq.pc)) (exec .initPwr (conv fun a => { a with dpd := true })) =
      some (false, true, 0x07) ∧
    get (fun t => t.seq.pc) (exec .initSettle (seqAt 7)) = some 0x08 := by decide

/-- V-I12, V-I13, V-I15. -/
theorem test_init_cal :
    get (fun t => (t.adc.cal, t.seq.pc)) (exec .initCal (seqAt 8)) = some (true, 0x09) ∧
    get (fun t => t.seq.pc) (exec .initCalWait ((conv fun a => { a with cal := true }).goto 9)) = some 0x09 ∧
    get (fun t => t.seq.pc) (exec .initCalWait (seqAt 9)) = some 0x0A := by decide

/-- V-I16, V-I18. -/
theorem test_init_mode_seqlen :
    get (fun t => (t.adc.cont, t.adc.ressel, t.seq.pc))
      (exec .initMode (conv fun a => { a with cont := true, ressel := 16 })) = some (false, 12, 0x0B) ∧
    get (fun t => (t.adc.seqLen, t.seq.pc)) (exec .initSeqlen (conv fun a => { a with seqLen := 3 })) =
      some (1, 0x0D) := by decide

/-- V-I17. -/
theorem test_init_smp :
    get (fun t => (chanRead t.adc.smp 5, chanRead t.adc.smp 6, t.seq.pc))
      (exec .initSmp { conf (fun c => { c with smpSel := 4 }) with adc := { Adc.reset with smp := [(6, 3)] } }) =
      some (4, 3, 0x0C) := by decide

/-- V-I19, V-I22, V-I23. -/
theorem test_init_en_rdy :
    get (fun t => (t.adc.enReq, t.seq.pc)) (exec .initEn (seqAt 0x0D)) = some (true, 0x0E) ∧
    get (fun t => t.seq.pc) (exec .initRdyWait (seqAt 0x0E)) = some 0x0E ∧
    get (fun t => t.seq.pc) (exec .initRdyWait ((conv fun a => { a with enabled := true, rdy := true }).goto 0x0E)) =
      some 0x10 := by decide

/-- V-C1 to V-C4, V-C6. -/
theorem test_conv_read :
    (∀ p ∈ [(12, 0xFABC, 0x0ABC), (8, 0xFABC, 0x00BC), (16, 0xFABC, 0xFABC), (1, 0xFFFF, 0x0001), (12, 0x1000, 0x0000)],
      get (fun t => (t.seq.v, t.seq.diagConv, t.seq.pc))
        (exec .convRead { conf (fun c => { c with res := p.1 }) with adc := { Adc.reset with dr := p.2.1 } }) =
        some (some (p.2.2 : U16), false, 0x20)) := by decide

/-- V-C7, V-C8, V-C10, V-C13. -/
theorem test_conv_sel_clr_wait :
    get (fun t => (t.adc.seqCh1, t.seq.pc)) (exec .convSel (conv fun a => { a with seqCh1 := 7 })) = some (5, 0x11) ∧
    get (fun t => (t.adc.eoc, t.seq.pc)) (exec .convClr (conv fun a => { a with eoc := true })) = some (false, 0x12) ∧
    get (fun t => t.seq.pc) (exec .convWait (seqAt 0x13)) = some 0x13 ∧
    get (fun t => t.seq.pc) (exec .convWait ((conv fun a => { a with eoc := true }).goto 0x13)) = some 0x14 := by decide

/-- V-C9. -/
theorem test_conv_start :
    get (fun t => (t.adc.start, t.seq.diagConv, t.seq.pc))
      (exec .convStart (conv fun a => { a with enabled := true, rdy := true })) = some (true, true, 0x13) := by decide

/-- V-F6 to V-F9: the step writes nothing and the fault is recorded. -/
theorem test_faults :
    get (fun t => (t.faults, t.adc.start, t.seq.diagConv, t.seq.pc)) (exec .convStart (seqAt 0x12)) =
      some ([.adcPrecondition 0x12], false, false, 0x12) ∧
    get (fun t => (t.faults, t.adc.cal)) (exec .initCal (conv fun a => { a with enabled := true })) =
      some ([.adcPrecondition 0x08], false) ∧
    get (fun t => (t.faults, t.adc.enReq)) (exec .initEn (conv fun a => { a with cal := true })) =
      some ([.adcPrecondition 0x0D], false) ∧
    get (fun t => (t.faults, t.link.sent)) (exec .txLo (seqAt 0x22)) =
      some ([.unwrittenRead (.seq 0x22) .seqV], []) := by decide

/-- A state with a sample and a timestamp captured. -/
def full (v : U16) (t : U32) : State :=
  { State.reset with seq := { State.reset.seq with v := some v, ts := some t } }

/-- V-E1, V-E6: the bytes of the sample and of the timestamp. -/
theorem test_tx_bytes :
    get (fun t => (t.link.sent, t.seq.pc)) (exec .txLo (full 0x0ABC 0)) = some ([0xBC], 0x23) ∧
    get (fun t => (t.link.q, t.seq.pc)) (exec .txHi (full 0x0ABC 0)) = some ([0x0A], 0x28) ∧
    get (fun t => t.link.sent) (exec .txTs0 (full 0 10000)) = some [0x10] ∧
    get (fun t => t.link.sent) (exec .txTs1 (full 0 10000)) = some [0x27] ∧
    get (fun t => t.link.sent) (exec .txTs2 (full 0 0x12345678)) = some [0x34] ∧
    get (fun t => (t.link.sent, t.seq.pc)) (exec .txTs3 (full 0 0x12345678)) = some ([0x12], 0x28) := by decide

/-- In timestamp mode at TX_SYNC0, the last reading `tl`, the next one `t`. -/
def stampAt (tl t : U32) : State :=
  { conf (fun c => { c with tsDev := true }) with
    seq := { State.reset.seq with tLast := tl }, env := { Env.reset with tmr := [t] } }

/-- V-E6, V-E8, V-E10: the delta wraps; V-E12: the pin. -/
theorem test_tx_sync0 :
    get (fun t => (t.seq.ts, t.seq.tLast, t.link.sent, t.seq.diagTx)) (exec .txSync0 (stampAt 990000 1000000)) =
      some (some 10000, 1000000, [0xAA], true) ∧
    get (fun t => t.seq.ts) (exec .txSync0 (stampAt 0xFFFFFF00 0x100)) = some (some 0x200) ∧
    get (fun t => t.seq.ts) (exec .txSync0 (stampAt 1 0)) = some (some 0xFFFFFFFF) ∧
    get (fun t => (t.seq.ts, t.seq.tLast, t.seq.pc)) (exec .txSync0 (seqAt 0x20)) = some (none, 0, 0x21) := by decide

/-- R183, R190, R191. -/
theorem test_tx_sync1_end_delay :
    get (fun t => (t.link.sent, t.seq.pc)) (exec .txSync1 (seqAt 0x21)) = some ([0xAA], 0x22) ∧
    get (fun t => (t.seq.diagTx, t.seq.pc)) (exec .txEnd (seqAt 0x28)) = some (false, 0x30) ∧
    get (fun t => t.seq.pc) (exec .delay (seqAt 0x30)) = some 0x10 := by decide

/-! Single steps of SYNC, through the whole step: fetch, decode and run. -/

/-- One SYNC step. -/
def syncStep (s : State) : Result := step (plan s [.sync])

/-- V-T1 to V-T4. -/
theorem test_marker_search :
    get (fun t => (t.sync.st, t.sync.rxq)) (syncStep (syncAt 0 [0xAA, 0x01])) = some (1, [0x01]) ∧
    get (fun t => (t.sync.st, t.sync.rxq)) (syncStep (syncAt 0 [0xAB])) = some (0, []) ∧
    get (fun t => t.sync.st) (syncStep (syncAt 1 [0xAA])) = some 2 ∧
    get (fun t => t.sync.st) (syncStep (syncAt 1 [0x00])) = some 0 := by decide

/-- V-T5, V-T6, V-T7. -/
theorem test_sample_bytes :
    get (fun t => (t.sync.st, t.sync.accS)) (syncStep (syncAt 2 [0xAA])) = some (3, some 0x00AA) ∧
    get (fun t => (t.sync.st, t.sync.accS)) (exec (.rs1Hi 0x05) ((syncAt 3 [0x05]).putSample (some 0x00AA))) =
      some (8, some 0x05AA) ∧
    get (fun t => (t.sync.st, t.sync.accS))
      (exec (.rs1Hi 0x01) ((conf fun c => { c with tsHost := true }).putSample (some 0x0023))) =
      some (4, some 0x0123) := by decide

/-- V-T8 to V-T11. -/
theorem test_stamp_bytes :
    get (fun t => (t.sync.st, t.sync.accT)) (syncStep (syncAt 4 [0x10])) = some (5, some 0x10) ∧
    get (fun t => (t.sync.st, t.sync.accT)) (syncStep ((syncAt 5 [0x27]).putStamp (some 0x10))) =
      some (6, some 0x2710) ∧
    get (fun t => (t.sync.st, t.sync.accT)) (syncStep ((syncAt 6 [0xAA]).putStamp (some 0x2710))) =
      some (7, some 0xAA2710) ∧
    get (fun t => (t.sync.st, t.sync.accT)) (syncStep ((syncAt 7 [0xAA]).putStamp (some 0xAA2710))) =
      some (8, some 0xAAAA2710) := by decide

/-- `syncAt` with the end of stream signalled. -/
def eosAt (st : BitVec 4) (rxq : List Byte) : State :=
  { syncAt st rxq with sync := { (syncAt st rxq).sync with eos := true } }

/-- V-T12 to V-T15. -/
theorem test_end_of_stream :
    get (fun t => (t.sync.st, t.last)) (syncStep (syncAt 2 [])) = some (2, .hold .sync) ∧
    get (fun t => (t.sync.st, t.last)) (syncStep (eosAt 2 [])) = some (9, .next) ∧
    get (fun t => t.sync.st) (syncStep (eosAt 0 [0xAA])) = some 1 ∧
    get (fun t => (t.sync.st, t.sync.rxq, t.last)) (syncStep (syncAt 9 [0xAA])) = some (9, [0xAA], .hold .sync) := by
  decide

/-- At EMIT with sample 0x0123 and timestamp 10000 us, in timestamp mode with a time axis. -/
def emitTime : State :=
  { State.reset with
    cfg := { Config.reference with tsHost := true, xunit := .time }
    sync := { Sync.sessionStart { Config.reference with tsHost := true, xunit := .time } with
      st := 8, accS := some 0x0123, accT := some 10000 } }

/-- At EMIT with sample 0x3412, without timestamps, and a wall-clock interval of 1/4 s to come. -/
def emitWall : State :=
  { State.reset with
    sync := { Sync.sessionStart Config.reference with st := 8, accS := some 0x3412 }
    env := { Env.reset with wall := [1 / 4] } }

/-- P3, after EMIT 1. -/
theorem test_emit_timestamp :
    get (fun t => (t.sync.histY, t.sync.histX, t.sync.rbuf, t.sync.rcur)) (exec .emit emitTime) =
      some ([none, none, some 0x0123], [-1 / 50, -1 / 100, 0], [some (1 / 100), none], 1) ∧
    get (fun t => (t.sync.rate, t.sync.out, t.sync.st)) (exec .emit emitTime) =
      some (some 100, [⟨0x0123, 0, some 100⟩], 0) := by decide +kernel

/-- S1 with a wall draw of 1/4 s. -/
theorem test_emit_wall :
    get (fun t => (t.sync.out, t.sync.rbuf, t.env.wall)) (exec .emit emitWall) =
      some ([⟨0x3412, 2, some 4⟩], [some (1 / 4), none], []) := by decide +kernel

/-- V-H4, V-H5. -/
theorem test_x_positions :
    (Sync.sessionStart emitTime.cfg).histX = [-1 / 50, -1 / 100, 0] ∧
    xShift [-1 / 50, -1 / 100, 0] (1 / 50) = [-3 / 100, -1 / 50, 0] := by decide +kernel

/-- V-R1 to V-R7. -/
theorem test_rates :
    rateEstimate [some (1 / 100), none] = some 100 ∧ rateEstimate [some (1 / 100), some (1 / 50)] = some (200 / 3) ∧
    rateEstimate [some (1 / 25), some (1 / 50)] = some (100 / 3) ∧ rateEstimate [some 0, none] = none ∧
    rateEstimate [some 0, some (1 / 100)] = some 200 ∧ rateEstimate [none, none] = none := by decide +kernel

/-! Environment events. -/

/-- V-I8, V-I20, V-I21. -/
theorem test_adc_dis_ready :
    get (fun t => (t.adc.enabled, t.adc.rdy, t.adc.start, t.adc.disReq, t.adc.dr))
      (exec .adcDisDone (conv fun a => { a with enabled := true, rdy := true, start := true, disReq := true, dr := 0x111 })) =
      some (false, false, false, false, 0x0111) ∧
    get (fun t => (t.adc.enabled, t.adc.rdy, t.adc.enReq))
      (exec .adcReady (conv fun a => { a with enReq := true, regen := true })) = some (true, true, false) ∧
    get (fun t => (t.adc.enabled, t.last)) (exec .adcReady (conv fun a => { a with enReq := true, dpd := true })) =
      some (false, .hold .adc) := by decide

/-- V-I14, V-C11, V-C12, V-C14. -/
theorem test_adc_cal_conv :
    get (fun t => (t.adc.cal, t.adc.calFact))
      (exec .adcCalDone { conv (fun a => { a with cal := true }) with env := { Env.reset with cal := [77] } }) =
      some (false, 77) ∧
    (∀ c ∈ [true, false], get (fun t => (t.adc.dr, t.adc.eoc, t.adc.start))
      (exec .adcConvDone { conv (fun a => { a with enabled := true, start := true, cont := c }) with
        env := { Env.reset with analog := [0x8123] } }) = some (0x8123, true, c)) ∧
    get (fun t => t.last) (exec .adcConvDone State.reset) = some (.hold .adc) := by decide

/-- Reset, with bytes in flight. -/
def flight (q : List Byte) (closed : Bool) : State :=
  { State.reset with link := { q := q, sent := q, closed := closed }, env := { Env.reset with noise := [0x13] } }

/-- V-L1 to V-L6. -/
theorem test_link :
    get (fun t => (t.link.q, t.sync.rxq)) (exec .linkDeliver (flight [0xAA, 0x12] false)) = some ([0x12], [0xAA]) ∧
    get (fun t => (t.link.q, t.sync.rxq)) (exec .linkDrop (flight [0xAA, 0x12] true)) = some ([0x12], []) ∧
    get (fun t => (t.link.q, t.sync.rxq)) (exec .linkCorrupt (flight [0x12] false)) = some ([], [0x13]) ∧
    get (fun t => t.sync.rxq) (exec .linkInsert (flight [] false)) = some [0x13] ∧
    get (fun t => (t.link.closed, t.sync.eos, t.link.q)) (exec .linkClose (flight [0x56] false)) =
      some (true, true, [0x56]) ∧
    (∀ i ∈ [Instr.linkDeliver, .linkCorrupt, .linkInsert, .linkClose],
      get (fun t => t.last) (exec i (flight [0x12] true)) = some (.hold .link)) := by decide

/-- V-S17, V-S19, V-X4, V-X5. -/
theorem test_host :
    get (fun t => (t.sync.stop, t.sync.st)) (exec .hostStop (syncAt 0 [])) = some (true, 0) ∧
    get (fun t => (t.sync.stop, t.last)) (exec .hostStop (syncAt 9 [])) = some (false, .hold .host) ∧
    get (fun t => (t.sync.st, t.sync.rxq, t.sync.histY)) (exec .sessionStart (syncAt 9 [0xAA])) =
      some (0, [], [none, none, none]) ∧
    get (fun t => (t.sync.st, t.last)) (exec .sessionStart (syncAt 2 [])) = some (2, .hold .host) := by decide

/-- V-X2, V-X3; before the first power-on there is no warm reset. -/
theorem test_resets :
    get (fun t => (t.seq.pc, t.seq.diagTx, t.seq.v, t.adc.enabled))
      (exec .resetWarm { conv (fun a => { a with enabled := true, rdy := true }) with
        seq := { State.reset.seq with pc := 0x22, diagTx := true, v := some 0x456 } }) =
      some (0x01, false, some 0x456, true) ∧
    get (fun t => (t.seq.pc, t.seq.v, t.link.sent)) (exec .resetPor (flight [0xAA, 0x01] false)) =
      some (0x01, none, [0xAA, 0x01]) ∧
    get (fun t => (t.link.q, t.started)) (exec .resetPor { flight [0xAA] false with started := false }) =
      some ([], true) ∧
    get (fun t => t.last) (exec .resetWarm { State.reset with started := false }) = some (.hold .seq) := by decide

/-- V-F1 to V-F5. -/
theorem test_refusals :
    step (conf fun c => { c with res := 0 }) = .refused (.badConfig .resLow) ∧
    step (conf fun c => { c with tDelay := 1, tConvMin := 2 }) = .refused (.badConfig .delay) ∧
    step (conf fun c => { c with histN := 0 }) = .refused (.badConfig .histN) ∧
    step (seqAt 0x0F) = .refused (.badState .seq 0x0F) ∧
    step (syncAt 10 []) = .refused (.badState .sync 0x0A) := by
  refine ⟨?_, ?_, ?_, ?_, ?_⟩ <;> rfl

/-- V-F11 to V-F15. -/
theorem test_waiting :
    ((conv fun a => { a with cal := true }).goto 0x09).waiting = some .hangInitCal ∧
    (seqAt 0x13).waiting = some .hangConvEoc ∧
    ((conv fun a => { a with disReq := true }).goto 0x05).waiting = some .hangInitDis ∧
    (seqAt 0x0E).waiting = some .hangInitRdy ∧ (syncAt 3 []).stalled = true := by decide

/-- SEQ at `c` with `n` bytes sent, `p` picked next. -/
def sendingAt (c : BitVec 8) (n : Nat) (p : Pick) : State :=
  plan { (full 0x0789 0).goto c with link := { State.reset.link with sent := List.replicate n 0xAA } } [p]

/-- P8: `AA AA`, cut by RESET_WARM, then a whole frame: only the second one is a frame. In timestamp mode the frame
ends with TX_TS3. -/
theorem test_whole_frames :
    wholeFrames [sendingAt 0x20 0 .seq, sendingAt 0x21 1 .seq, sendingAt 0x22 2 (.evt .resetWarm),
      sendingAt 0x20 2 .seq, sendingAt 0x21 3 .seq, sendingAt 0x22 4 .sync, sendingAt 0x22 4 .seq,
      sendingAt 0x23 5 .seq] = [2] ∧
    wholeFrames (((List.range 8).map fun n =>
      { sendingAt (BitVec.ofNat 8 (0x20 + n)) (5 + n) .seq with cfg := (stampAt 0 0).cfg })) = [5] := by decide

/-- SYNC at EMIT with sample 0xAAAA, after P8's bytes were sent and those of `rest` are not yet consumed. -/
def emitAfter (rest : List Byte) : State :=
  plan
    { State.reset with
      link := { State.reset.link with sent := [0xAA, 0xAA, 0xAA, 0xAA, 0x89, 0x07] }
      sync := { Sync.sessionStart Config.reference with st := 8, accS := some 0xAAAA, rxq := rest } } [.sync]

/-- P8: the lock on the cut frame and the next marker is at position 0, where no whole frame begins; the aligned one is
at position 2. -/
theorem test_lock_index :
    (emitAfter [0x89, 0x07]).emits = true ∧ (emitAfter [0x89, 0x07]).lockIndex = 0 ∧
    (emitAfter []).lockIndex = 2 := by decide

/-- States that only SYNC moves send no frame. -/
theorem test_no_frames (s : State) (h : s.pick = .sync) (n : Nat) : wholeFrames (trace (fun _ => s) n) = [] := by
  have key : (trace (fun _ => s) n).foldl Ledger.after (none, []) = (none, []) := by
    induction n with
    | zero => rfl
    | succ n ih => rw [ledger_trace_succ, ih]; simp [Ledger.after, State.cuts, State.opensFrame, State.endsFrame, h]
  rw [wholeFrames, key]

/-- V-F15, V-S8 and a false lock as reports. -/
theorem test_reports :
    Reports (fun _ => syncAt 3 []) 0 (.syncStall 3) ∧
    Reports (fun _ => plan (syncAt 0 [0xFF]) [.sync]) 0 (.desyncDiscard 0xFF) ∧
    Reports (fun _ => plan (eosAt 3 []) [.sync]) 0 (.sessEos 3) ∧
    Reports (fun _ => emitAfter [0x89, 0x07]) 0 .falseLock := by
  refine ⟨fun _ _ => ⟨rfl, rfl⟩, ⟨rfl, _, rfl, rfl⟩, ⟨rfl, _, rfl, rfl⟩, fun _ => ?_, by decide, ?_⟩
  · refine ⟨fun h => ?_, fun h => ?_, fun h => ?_, fun h => ?_⟩ <;>
      exact absurd (show (emitAfter [0x89, 0x07]).pick = _ from h.1) (by decide)
  · rintro ⟨n, hn⟩
    rw [test_no_frames _ (by decide)] at hn
    exact absurd hn (by decide)

/-- A placed word is the first step after reset: INIT_CAL, RS1_HI, EOS_END and RESET_POR. -/
theorem test_with_fetch_word :
    get (fun t => t.adc.cal) (step (State.reset.withFetchWord 8 0x08)) = some true ∧
    get (fun t => t.sync.st) (step (State.reset.withFetchWord 12 0x305)) = some 8 ∧
    get (fun t => t.sync.st) (step (State.reset.withFetchWord 4 0x0)) = some 9 ∧
    get (fun t => t.seq.pc) (step (State.reset.withFetchWord 8 0xA1)) = some 0x01 := by decide

/-! Witnesses: states and operands that meet the hypotheses of an obligation, each clause of it. -/

/-- Reset before the first power-on. -/
def unstarted : State := { State.reset with started := false }

/-- Well-formed instructions and decodable words at the ends of each format. -/
theorem test_witness_round_trip :
    WellFormed (.seek1Discard 0xFF) = true ∧ WellFormed (.eosEnd 7) = true ∧
    decode (.tok 0x7FF#12) = .ok (.rt3B3 0xFF) ∧ decode (.seq 0x30#8) = .ok .delay := by decide

/-- SYNC with a byte in states 0 and 7, without one, and in state 8; SEQ at reset. -/
theorem test_witness_step_runs :
    State.reset.outside = none ∧ (plan State.reset [.seq]).pick = .seq ∧
    decode ((plan State.reset [.seq]).afterPick.fetch .seq) = .ok .initClk ∧
    (syncAt 0 [1]).fetch .sync = .tok 0x001#12 ∧ (syncAt 7 [1]).fetch .sync = .tok 0x701#12 ∧
    (syncAt 7 []).fetch .sync = .syncInt 7 ∧ (syncAt 8 [1]).fetch .sync = .syncInt 8 := by decide

/-- Before the first power-on, SEQ or an ADC event picked. -/
theorem test_witness_before_power_on :
    ∀ p ∈ [Pick.seq, .evt .adcDisDone, .evt .adcCalDone, .evt .adcReady, .evt .adcConvDone],
      (plan unstarted [p]).outside = none ∧ (plan unstarted [p]).started = false ∧ (plan unstarted [p]).pick = p := by
  decide

/-- Well-formed configurations with an unlisted SEQ state, SYNC states 10 and 15, and state 9. -/
theorem test_witness_refused :
    (conf fun c => { c with rateM := 0 }).outside = some (.badConfig .rateM) ∧
    (conf fun c => { c with res := 17, histN := 0 }).outside = some (.badConfig .resHigh) ∧
    (conf fun c => { c with fs := 0 }).outside = some (.badConfig .fs) ∧
    (conf fun c => { c with tRegMin := 1 }).outside = some (.badConfig .settle) ∧
    Config.reference.Wf ∧ (conf fun c => { c with res := 16 }).cfg.Wf ∧ ¬ (conf fun c => { c with res := 17 }).cfg.Wf ∧
    (seqAt 0x0F).outside = some (.badState .seq 0x0F) ∧ (syncAt 10 []).outside = some (.badState .sync 10) ∧
    (syncAt 15 []).outside = some (.badState .sync 15) ∧ (syncAt 9 []).outside = none := by decide

/-- A placed word of each format. -/
theorem test_witness_placed :
    State.reset.outside = none ∧ decode (.seq 0x14) = .ok .convRead ∧ decode (.tok 0x2AA) = .ok (.rs0Lo 0xAA) ∧
    decode (.syncInt 8) = .ok .emit ∧ decode (.evt 0x81) = .ok .adcCalDone := by decide

/-- The converter states of INIT_DIS_CHK and of the three requests, with and without their fault. -/
theorem test_witness_requests :
    (∃ a : Adc, a.enabled = true ∧ a.rdy = true) ∧ (∃ a : Adc, a.enReq = true) ∧
    (∃ a : Adc, a.enabled = false ∧ a.enReq = false ∧ a.cal = false) ∧
    (∃ a : Adc, a.cal = true) ∧ (∃ a : Adc, a.enabled = true ∧ a.rdy = false) ∧ (∃ a : Adc, a.enabled = false) :=
  ⟨⟨{ Adc.reset with enabled := true, rdy := true }, rfl, rfl⟩, ⟨{ Adc.reset with enReq := true }, rfl⟩,
   ⟨Adc.reset, rfl, rfl, rfl⟩, ⟨{ Adc.reset with cal := true }, rfl⟩, ⟨{ Adc.reset with enabled := true }, rfl, rfl⟩,
   ⟨Adc.reset, rfl⟩⟩

/-- A canonical channel store with two channels, a legal converter state and the largest resolution. -/
theorem test_witness_stores :
    chanWf [(5, 1), (6, 3)] ∧ ¬ chanWf [(6, 3), (5, 1)] ∧ ¬ chanWf [(5, 0)] ∧ Adc.reset.legal ∧
    Adc.legal { Adc.reset with ressel := 16, enabled := true, rdy := true, regen := true } ∧
    (conf fun c => { c with res := 16 }).cfg.res ≤ 16 := by decide

/-- TX_SYNC0 with and without timestamp mode, with a reading to come and with none. -/
theorem test_witness_tx_sync0 :
    State.reset.cfg.tsDev = false ∧ (stampAt 1 0).cfg.tsDev = true ∧ (stampAt 1 0).env.tmr = [0] ∧
    State.reset.env.tmr = [] := by decide

/-- Written and unwritten registers, and accumulators written one at a time. -/
theorem test_witness_registers :
    (full 0xFFFF 0xFFFFFFFF).seq.v = some 0xFFFF ∧ (full 0xFFFF 0xFFFFFFFF).seq.ts = some 0xFFFFFFFF ∧
    State.reset.seq.v = none ∧ State.reset.seq.ts = none ∧ State.reset.sync.accS = none ∧
    (State.reset.putSample (some 0)).sync.accS ≠ none ∧ (State.reset.putStamp (some 0)).sync.accT = some 0 ∧
    ((conf fun c => { c with tsHost := true }).putSample (some 0)).cfg.tsHost = true ∧
    ((conf fun c => { c with tsHost := true }).putSample (some 0)).sync.accT = none := by decide

/-- A SEQ step that raises no fault. -/
def seqRuns (s : State) : Bool := get (fun t => t.faults) (step (plan s [.seq])) == some s.faults

/-- A SEQ step without a fault at every sequencer state whose successor the statement names. -/
theorem test_witness_successors :
    (∀ c ∈ [0x01, 0x04, 0x05, 0x09, 0x0E, 0x13, 0x14, 0x28, 0x30],
      (plan (seqAt c) [.seq]).pick = .seq ∧ (plan (seqAt c) [.seq]).started = true ∧ seqRuns (seqAt c) = true) ∧
    seqRuns ((full 0 0).goto 0x23) = true ∧ seqRuns ((stampAt 0 0).goto 0x20) = true := by decide

/-- SEQ at TX_SYNC0 with a sample and the steps of one frame to come, in both modes. -/
theorem test_witness_frame :
    (plan ((full 0xAAAA 0).goto 0x20) (List.replicate 5 .seq)).outside = none ∧
    ((full 0xAAAA 0).goto 0x20).seq.pc = 0x20 ∧ ((full 0xAAAA 0).goto 0x20).seq.v = some 0xAAAA ∧
    ((full 0xAAAA 0).goto 0x20).cfg.tsDev = false ∧
    (plan { (full 0xAAAA 0).goto 0x20 with cfg := (stampAt 0 0).cfg } (List.replicate 9 .seq)).outside = none ∧
    { (full 0xAAAA 0).goto 0x20 with cfg := (stampAt 0 0).cfg }.cfg.tsDev = true := by decide

/-- End of stream enabled in states 0 and 7; not enabled for want of the signal, with a byte waiting, and in state 8. -/
theorem test_witness_end_of_stream :
    (eosAt 0 []).eosEnabled = true ∧ (eosAt 7 []).eosEnabled = true ∧ (syncAt 7 []).eosEnabled = false ∧
    (eosAt 7 [0]).eosEnabled = false ∧ (eosAt 8 []).eosEnabled = false := by decide

/-- EMIT with a timestamp, and with a wall-clock interval to come. -/
theorem test_witness_emit :
    emitTime.sync.accS = some 0x0123 ∧ emitTime.sync.accT = some 10000 ∧ emitTime.cfg.tsHost = true ∧
    emitTime.cfg.xunit = .time ∧ emitWall.sync.accS = some 0x3412 ∧ emitWall.cfg.tsHost = false ∧
    emitWall.env.wall = [1 / 4] ∧ (0 : Rat) ≤ 1 / 4 := by decide +kernel

/-- Between sessions, in timestamp mode. -/
def betweenSessions : State := { State.reset with cfg := { Config.reference with tsHost := true } }

/-- `betweenSessions` at EMIT of sample `v` with timestamp `ts`, its buffers those of `s`. -/
def emitNext (s : State) (v : U16) (ts : U32) : State :=
  { betweenSessions with sync := { s.sync with st := 8, accS := some v, accT := some ts } }

/-- A session start and the two EMITs after it. -/
theorem test_witness_emits :
    ∃ s1 f0 f1, betweenSessions.sync.st = 9 ∧ exec .sessionStart betweenSessions = .next s1 ∧
      exec .emit (emitNext s1 1 10000) = .next f0 ∧ exec .emit (emitNext f0 2 20000) = .next f1 ∧
      (emitNext s1 1 10000).sync.histY = s1.sync.histY ∧ (emitNext f0 2 20000).sync.histY = f0.sync.histY ∧
      (emitNext s1 1 10000).sync.rbuf = s1.sync.rbuf ∧ (emitNext f0 2 20000).sync.rbuf = f0.sync.rbuf ∧
      (emitNext f0 2 20000).sync.rcur = f0.sync.rcur ∧ betweenSessions.cfg.tsHost = true ∧
      2 ≤ betweenSessions.cfg.rateM ∧ f1.sync.histY = [none, some 1, some 2] :=
  ⟨_, _, _, rfl, rfl, rfl, rfl, rfl, rfl, rfl, rfl, rfl, rfl, by decide, rfl⟩

/-- Histories of three entries, sessions shorter and longer than the window, a rate buffer that has wrapped. -/
theorem test_witness_buffers :
    ([none, none, some 1] : List (Option U16)) ≠ [] ∧ ([0, 1, 2] : List Rat)[1 + 1]? = some 2 ∧
    ([1, 2] : List U16).length ≤ 3 ∧ 3 ≤ ([1, 2, 3, 4] : List U16).length ∧
    Config.reference.rateM = 2 ∧ 1 < ([1, 2, 3] : List Rat).length ∧ ([1, 2, 3] : List Rat).length ≤ 1 + 2 := by
  decide +kernel

/-- `emitTime` with other rates. -/
def emitRated : State :=
  { emitTime with sync := { emitTime.sync with rbuf := [some 1, some 2], rcur := 1, rate := some (2 / 3) } }

/-- `emitTime` with other recorded-only fields. -/
def emitMarked : State :=
  { emitTime with
    seq := { emitTime.seq with diagTx := true }
    adc := { emitTime.adc with clkAdc := true, presc := 7 }
    link := { emitTime.link with sent := [1, 2] } }

/-- States that differ in their rates only, and in recorded fields only; EMIT runs in each. -/
theorem test_witness_unread :
    emitTime.withoutRate = emitRated.withoutRate ∧ emitTime ≠ emitRated ∧
    emitTime.withoutObservations = emitMarked.withoutObservations ∧ emitTime ≠ emitMarked ∧
    (∀ s ∈ [emitTime, emitRated, emitMarked], (nxt (exec .emit s)).isSome = true) := by decide +kernel

/-- Every event enabled in one state and disabled in another; the two that are always enabled are only enabled. -/
theorem test_witness_events :
    (∀ e ∈ [Event.adcDisDone, .adcCalDone],
      eventEnabled e (conv fun a => { a with disReq := true, cal := true }) = true) ∧
    eventEnabled .adcReady (conv fun a => { a with enReq := true, regen := true }) = true ∧
    eventEnabled .adcConvDone (conv fun a => { a with start := true, enabled := true }) = true ∧
    (∀ e ∈ [Event.linkDeliver, .linkDrop, .linkCorrupt, .linkInsert, .linkClose],
      eventEnabled e (flight [1] false) = true) ∧
    eventEnabled .hostStop (syncAt 0 []) = true ∧ eventEnabled .sessionStart (syncAt 9 []) = true ∧
    eventEnabled .resetWarm State.reset = true ∧ eventEnabled .resetPor unstarted = true ∧
    (∀ e ∈ [Event.adcDisDone, .adcCalDone, .adcReady, .adcConvDone, .linkDeliver, .linkDrop, .linkCorrupt, .hostStop],
      eventEnabled e State.reset = false) ∧
    (∀ e ∈ [Event.linkInsert, .linkClose], eventEnabled e (flight [] true) = false) ∧
    eventEnabled .resetWarm unstarted = false ∧ eventEnabled .sessionStart (syncAt 0 []) = false := by decide

/-- RESET_POR with a legal converter state to draw, the first time and later. -/
theorem test_witness_resets :
    Adc.legal (PowerUp.mk 5 Adc.reset).adc ∧ State.reset.env.power = [] ∧ State.reset.started = true ∧ unstarted.started = false ∧
    get (fun t => t.seq.tLast) (exec .resetPor { unstarted with env := { Env.reset with power := [⟨5, Adc.reset⟩] } }) =
      some 5 := by decide

/-- One next state for a step of each agent, and a flag changed by each of the steps R62 lists. -/
theorem test_witness_frames :
    Instr.agent .initCal = .seq ∧ get (fun t => t.adc.cal) (exec .initCal State.reset) = some true ∧
    get (fun t => t.adc.disReq) (exec .initDisChk (conv fun a => { a with enReq := true })) = some true ∧
    get (fun t => t.adc.enReq) (exec .initEn State.reset) = some true ∧
    Instr.agent .adcReady = .adc ∧
    get (fun t => (t.adc.enabled, t.adc.rdy)) (exec .adcReady (conv fun a => { a with enReq := true, regen := true })) =
      some (true, true) ∧
    get (fun t => t.adc.start) (exec .convStart (conv fun a => { a with enabled := true, rdy := true })) = some true ∧
    get (fun t => t.adc.eoc) (exec .convClr (conv fun a => { a with eoc := true })) = some false ∧
    Instr.agent (.rs0Lo 1) = .sync ∧ get (fun t => t.sync.out) (exec (.rs0Lo 1) (syncAt 2 [1])) = some [] ∧
    Instr.agent .linkDrop = .link ∧ get (fun t => t.link.sent) (exec .linkDrop (flight [1] false)) = some [1] ∧
    get (fun t => (t.sync.eos, t.link.q)) (exec .linkClose (flight [1] false)) = some (true, [1]) ∧
    get (fun t => (t.sync.st, t.link.closed)) (exec .sessionStart (flight [1] true)) = some (0, false) ∧
    Instr.agent .hostStop = .host ∧ get (fun t => t.link.sent) (exec .hostStop (syncAt 0 [])) = some [] := by decide

/-- A session ended by a stop request at EMIT, and one by end of stream. -/
theorem test_witness_session_end :
    get (fun t => t.sync.st)
      (syncStep { emitTime with sync := { emitTime.sync with stop := true } }) = some 9 ∧
    emitTime.sync.st ≠ 9 ∧ get (fun t => t.sync.st) (syncStep (eosAt 7 [])) = some 9 ∧ (eosAt 7 []).sync.st ≠ 9 := by
  decide +kernel

/-- A step that enters SEEK2 from SEEK1, one that enters RS0 from SEEK2, and one that stays in SEEK2. -/
theorem test_witness_lock :
    (syncAt 0 [0xAA]).sync.st ≠ 1 ∧ get (fun t => t.sync.st) (syncStep (syncAt 0 [0xAA])) = some 1 ∧
    (syncAt 1 [0xAA]).sync.st ≠ 2 ∧ get (fun t => t.sync.st) (syncStep (syncAt 1 [0xAA])) = some 2 ∧
    get (fun t => (t.sync.st, t.sync.rxq)) (step (plan { syncAt 1 [0xAA] with env := { Env.reset with noise := [7] } }
      [.evt .linkInsert])) = some (1, [0xAA, 7]) := by decide

/-- SEQ busy-waiting for a conversion and SYNC at the sample's high byte, with SEQ picked next. -/
def running (ps : List Pick) : State :=
  plan
    { State.reset with
      adc := { Adc.reset with
        clkAdc := true, clkPort := true, pinMode := .analog, pinDigOff := true, regen := true, seqLen := 1, seqCh1 := 5
        enabled := true, rdy := true, start := true }
      seq := { State.reset.seq with pc := 0x13, diagConv := true }
      link := { q := [0x01], sent := [0xAA, 0xAA, 0x23, 0x01], closed := false }
      sync := { Sync.sessionStart Config.reference with st := 3, accS := some 0x0023, rxq := [0x01] } } ps

/-- The running state meets the device's invariant. -/
theorem test_running_device (ps : List Pick) : DeviceInv (running ps) := by
  constructor
  all_goals (simp only [running, plan]; decide +kernel)

/-- The running state meets the sequencer's invariant. -/
theorem test_running_seq (ps : List Pick) : SeqInv (running ps) where
  listed := by simp only [running, plan]; decide
  convPin := by simp only [running, plan]; decide
  txPin := by simp only [running, plan]; decide
  masked := by intro v h; cases h
  vWritten := by simp only [running, plan]; decide
  stamped := by simp only [running, plan]; decide
  tsMode := by simp only [running, plan]; decide

/-- The running state meets SYNC's invariant. -/
theorem test_running_sync (ps : List Pick) : SyncInv (running ps) := by
  constructor
  all_goals (simp only [running, plan]; decide +kernel)

/-- The running state meets the link's invariant. -/
theorem test_running_link (ps : List Pick) : LinkInv (running ps) where
  started := rfl
  suffix := ⟨[0xAA, 0xAA, 0x23], rfl⟩
  closing := rfl

/-- A step of SEQ, of SYNC, of the ADC and of the link from the running state. -/
theorem test_witness_steps :
    ∀ p ∈ [Pick.seq, .sync, .evt .adcConvDone, .evt .linkDeliver],
      (running [p]).adc.consistent = true ∧ (running [p]).started = true ∧ (running [p]).pick = p ∧
      (nxt (step (running [p]))).isSome = true := by decide +kernel

/-- The schedule of an initialisation with one converter step after each request. -/
def initPlan : List Pick :=
  List.replicate 7 .seq ++ [.evt .adcCalDone] ++ List.replicate 5 .seq ++ [.evt .adcReady, .seq]

/-- From reset the schedule brings SEQ to CONV_SEL: program P1 up to its first conversion. -/
theorem test_witness_initialised :
    State.reset.seq.pc = 0x01 ∧ State.reset.adc.legal ∧
    get (fun t => t.seq.pc) (Host.Core.run core 15 (plan State.reset initPlan)) = some 0x10 := by decide +kernel

/-- SYNC in SEEK1 with a whole frame waiting and its steps to come, in both modes. -/
theorem test_witness_aligned :
    (plan (syncAt 0 (frameBytes 0x05AA ++ [0xAA])) (List.replicate 5 .sync)).outside = none ∧
    (syncAt 0 (frameBytes 0x05AA ++ [0xAA])).sync.rxq = [0xAA, 0xAA, 0xAA, 0x05] ++ [0xAA] ∧
    (syncAt 0 []).sync.stop = false ∧ (syncAt 0 []).cfg.tsHost = false ∧
    frameBytes 0x0123 ++ stampBytes 10000 = [0xAA, 0xAA, 0x23, 0x01, 0x10, 0x27, 0, 0] ∧
    (plan { emitTime with sync := { emitTime.sync with st := 0, rxq := frameBytes 0x0123 ++ stampBytes 10000 ++ [7] } }
      (List.replicate 9 .sync)).outside = none := by decide +kernel

/-- A state waiting at each of the four polls, its converter step picked next. -/
def waitingAt (c : BitVec 8) (e : Event) (f : Adc → Adc) : State :=
  plan
    { State.reset with
      adc := f { Adc.reset with
        clkAdc := true, clkPort := true, pinMode := .analog, pinDigOff := true, regen := true, seqLen := 1 }
      seq := { State.reset.seq with pc := c, diagConv := c == 0x13 } } [.evt e]

/-- The four waits; the last is `running`. -/
theorem test_witness_waiting :
    ((waitingAt 0x05 .adcDisDone fun a => { a with enabled := true, rdy := true, disReq := true }).waiting =
      some .hangInitDis ∧
     DeviceInv (waitingAt 0x05 .adcDisDone fun a => { a with enabled := true, rdy := true, disReq := true })) ∧
    ((waitingAt 0x09 .adcCalDone fun a => { a with cal := true }).waiting = some .hangInitCal ∧
     DeviceInv (waitingAt 0x09 .adcCalDone fun a => { a with cal := true })) ∧
    ((waitingAt 0x0E .adcReady fun a => { a with enReq := true }).waiting = some .hangInitRdy ∧
     DeviceInv (waitingAt 0x0E .adcReady fun a => { a with enReq := true })) ∧
    ((running []).waiting = some .hangConvEoc ∧ (running []).outside = none) := by
  refine ⟨⟨by decide, ?_⟩, ⟨by decide, ?_⟩, ⟨by decide, ?_⟩, by decide +kernel⟩
  all_goals (constructor <;> decide +kernel)

/-- Steps on a faithful link: a byte sent, delivered and consumed, none of them a loss or a session start. -/
theorem test_witness_faithful :
    (∀ p ∈ [Pick.sync, .evt .linkDeliver], (running [p]).started = true ∧ (nxt (step (running [p]))).isSome = true) ∧
    get (fun t => t.link.sent) (step (plan (seqAt 0x21) [.seq])) = some [0xAA] := by decide +kernel

end Sys2Proof.Tests
end

section
/-! Proofs of the statements about the step as a whole: how an instruction ends, what a step runs, and the events that
are not enabled. -/

namespace Sys2Proof.Machine

/-! How an instruction ends (R11). -/

/-- The three ways a step taken in `s` ends: it wrote some successor, it held, or it raised a model fault. A hold and a
fault are of `s` itself: nothing else of the block changed. -/
inductive Ends (s : State) : Result → Prop where
  | done (t : State) : Ends s (done t)
  | hold (a : Agent) : Ends s (hold a s)
  | raise (f : Fault) : Ends s (raise f s)

/-- None of the three is final. -/
theorem Ends.next {s : State} {r : Result} (h : Ends s r) : ∃ t, r = .next t := by
  cases h with
  | done t => exact ⟨_, done_eq t⟩
  | hold a => exact ⟨_, hold_eq a s⟩
  | raise f => exact ⟨_, raise_eq f s⟩

theorem Ends.ite {s : State} {p : Prop} [Decidable p] {r₁ r₂ : Result} (h₁ : Ends s r₁) (h₂ : Ends s r₂) :
    Ends s (if p then r₁ else r₂) := by
  split
  · exact h₁
  · exact h₂

theorem sendSample_ends (field : U16 → Byte) (code succ : BitVec 8) (s : State) :
    Ends s (sendSample field code succ s) := by
  unfold sendSample
  split
  · exact .done _
  · exact .raise _

theorem sendStamp_ends (field : U32 → Byte) (code succ : BitVec 8) (s : State) :
    Ends s (sendStamp field code succ s) := by
  unfold sendStamp
  split
  · exact .done _
  · exact .raise _

theorem execEmit_ends (s : State) : Ends s (execEmit s) := by
  unfold execEmit
  split
  · exact .raise _
  · exact .done _

theorem execLinkDeliver_ends (s : State) : Ends s (execLinkDeliver s) := by
  unfold execLinkDeliver
  split
  · exact .ite (.hold _) (.done _)
  · exact .hold _

/-- Every instruction ends in one of the three ways, by the shape of its meaning: a plain write, a test with a write on
both sides, a request that may fault, a read that may fault, or an event that may not be enabled. -/
theorem exec_ends (i : Instr) (s : State) : Ends s (exec i s) :=
  match i with
  | .initClk | .initPin | .initPresc | .initPwr | .initSettle | .initMode | .initSmp | .initSeqlen
  | .convSel | .convClr | .convRead | .txSync0 | .txSync1 | .txEnd | .delay
  | .seek1Sync | .seek1Discard _ | .seek2Sync | .seek2Miss _ | .rs0Lo _ | .rs1Hi _
  | .rt0B0 _ | .rt1B1 _ | .rt2B2 _ | .rt3B3 _ | .resetPor => .done _
  | .initDisChk | .initDisWait | .initCalWait | .initRdyWait | .convWait => .ite (.done _) (.done _)
  | .initCal | .initEn | .convStart => .ite (.raise _) (.done _)
  | .txLo | .txHi => sendSample_ends _ _ _ s
  | .txTs0 | .txTs1 | .txTs2 | .txTs3 => sendStamp_ends _ _ _ s
  | .emit => execEmit_ends s
  | .ended => .hold _
  | .eosEnd _ | .adcDisDone | .adcCalDone | .adcReady | .adcConvDone | .resetWarm | .sessionStart =>
    .ite (.done _) (.hold _)
  | .linkDeliver => execLinkDeliver_ends s
  | .linkDrop | .linkCorrupt | .linkInsert | .linkClose | .hostStop => .ite (.hold _) (.done _)

/-! What a step runs (R11, R32, R201). -/

/-- In a state of the model the step is the picked agent's. -/
theorem step_of_inside {s : State} (h : s.outside = none) : step s = runPick s.pick s.afterPick := by
  simp only [step, h]

/-- The picked agent's step is the instruction its code word decodes to, save for the device before its first power-on. -/
theorem runPick_of_decode {p : Pick} {s : State} {i : Instr} (hs : devicePick p = true → s.started = true)
    (hd : decode (s.fetch p) = .ok i) : runPick p s = exec i s := by
  have hrun : ¬ (devicePick p && !s.started) = true := by simpa using hs
  simp only [runPick, if_neg hrun, hd]

/-- A pick ends in no Host fault: it holds, runs an instruction, or is refused. -/
theorem runPick_ne_fault (p : Pick) (s : State) (f : Fault) : runPick p s ≠ .fault f := by
  unfold runPick
  split
  · exact nofun
  · split
    · next i _ =>
      obtain ⟨t, ht⟩ := (exec_ends i s).next
      rw [ht]
      exact nofun
    · exact nofun

theorem step_ne_fault (s : State) (f : Fault) : step s ≠ .fault f := by
  unfold step
  split
  · exact nofun
  · exact runPick_ne_fault _ _ _

theorem consuming_iff (st : BitVec 4) : consuming st = true ↔ st.toNat < 8 := by
  simp [consuming, BitVec.ult]

theorem fetch_sync_consuming {s : State} {b : Byte} {bs : List Byte} (hq : s.sync.rxq = b :: bs)
    (hst : s.sync.st.toNat < 8) : s.fetch .sync = .tok (s.sync.st ++ b) := by
  simp only [State.fetch, hq, (consuming_iff _).2 hst, if_true, tokenOf]

theorem fetch_sync_without_byte {s : State} (h : s.sync.rxq = [] ∨ 8 ≤ s.sync.st.toNat) :
    s.fetch .sync = .syncInt s.sync.st := by
  match hq : s.sync.rxq with
  | [] => simp only [State.fetch, hq]
  | b :: bs =>
    have hst : 8 ≤ s.sync.st.toNat := h.resolve_left (by simp [hq])
    have hc : ¬ consuming s.sync.st = true := by rw [consuming_iff]; omega
    simp only [State.fetch, hq, if_neg hc]

/-! Events that are not enabled (R11, log 11). -/

/-- The instruction of an event (R110). -/
def eventInstr : Event → Instr
  | .adcDisDone => .adcDisDone
  | .adcCalDone => .adcCalDone
  | .adcReady => .adcReady
  | .adcConvDone => .adcConvDone
  | .linkDeliver => .linkDeliver
  | .linkDrop => .linkDrop
  | .linkCorrupt => .linkCorrupt
  | .linkInsert => .linkInsert
  | .linkClose => .linkClose
  | .hostStop => .hostStop
  | .resetPor => .resetPor
  | .resetWarm => .resetWarm
  | .sessionStart => .sessionStart

@[simp] theorem decode_event_code (e : Event) : decode (.evt e.code) = .ok (eventInstr e) := by
  cases e <;> rfl

theorem execLinkDeliver_disabled {s : State} (h : s.link.q = [] ∨ s.link.closed = true) :
    execLinkDeliver s = hold .link s := by
  unfold execLinkDeliver
  split
  · next b bs hq => exact if_pos (h.resolve_left (by simp [hq]))
  · rfl

/-- Each meaning's own test is the event's enabling condition; the device's events add the first power-on, which the
premise gives. RESET_POR is always enabled. -/
theorem exec_eventInstr_disabled {e : Event} {s : State} (hs : devicePick (.evt e) = true → s.started = true)
    (h : eventEnabled e s = false) : exec (eventInstr e) s = hold (pickAgent (.evt e)) s := by
  cases e with
  | adcDisDone | adcCalDone | adcReady | adcConvDone =>
    refine if_neg ?_
    simpa [eventEnabled, hs rfl] using h
  | linkDeliver => exact execLinkDeliver_disabled (by simpa [eventEnabled, imp_iff_not_or] using h)
  | linkDrop | linkCorrupt | linkInsert | linkClose | hostStop =>
    refine if_pos ?_
    simpa [eventEnabled, imp_iff_not_or] using h
  | resetPor => cases h
  | resetWarm | sessionStart =>
    refine if_neg ?_
    simpa [eventEnabled] using h

/-- Settles O8: every instruction ends by writing, holding or raising, and each of the three answers a next state. -/
theorem everyInstructionAnswersANextState : Obligations.EveryInstructionAnswersANextState :=
  ⟨fun i s => (exec_ends i s).next, step_ne_fault⟩

/-- Settles O42: the word of an event decodes to its instruction, whose own test is the event's enabling condition. -/
theorem disabledEventsHold : Obligations.DisabledEventsHold := by
  intro e i s hd hs he
  obtain rfl : eventInstr e = i := by simpa using hd
  rw [exec_eventInstr_disabled hs he, hold_eq]

/-- Settles O5: the step of a state of the model is its pick's, and the fetch of each kind of pick is its rule's. -/
theorem stepRunsDecodedInstruction : Obligations.StepRunsDecodedInstruction := by
  refine ⟨?_, fun _ => rfl, fun _ _ _ => fetch_sync_consuming, fun _ => fetch_sync_without_byte,
    fun _ _ => rfl, fun _ => rfl⟩
  intro s i ho hs hd
  exact (step_of_inside ho).trans (runPick_of_decode (s := s.afterPick) hs hd)

end Sys2Proof.Machine
end

section
/-! How the proofs about single steps are built: what an instruction ensures, rule by rule for the ways a meaning ends;
the frame of each agent; where an instruction is fetched; and the passage from instructions to steps. -/

namespace Sys2Proof.Machine

/-! What an instruction ensures (R11). -/

/-- Every next state that `r` answers satisfies `P`. -/
def Ensures (r : Result) (P : State → Prop) : Prop := ∀ t, r = .next t → P t

theorem Ensures.done {t : State} {P : State → Prop} (h : P { t with last := .next }) : Ensures (done t) P := by
  rintro _ ⟨⟩
  exact h

theorem Ensures.hold {s : State} {a : Agent} {P : State → Prop} (h : P { s with last := .hold a }) :
    Ensures (hold a s) P := by
  rintro _ ⟨⟩
  exact h

theorem Ensures.raise {s : State} {f : Fault} {P : State → Prop}
    (h : P { s with faults := s.faults ++ [f], last := .fault f }) : Ensures (raise f s) P := by
  rintro _ ⟨⟩
  exact h

theorem Ensures.ite {p : Prop} [Decidable p] {r₁ r₂ : Result} {P : State → Prop} (h₁ : p → Ensures r₁ P)
    (h₂ : ¬ p → Ensures r₂ P) : Ensures (if p then r₁ else r₂) P := by
  split
  · exact h₁ ‹_›
  · exact h₂ ‹_›

theorem Ensures.sendSample {field : U16 → Byte} {code succ : BitVec 8} {s : State} {P : State → Prop}
    (hsend : ∀ b, P { (s.send b).goto succ with last := .next })
    (hraise : ∀ f, P { s with faults := s.faults ++ [f], last := .fault f }) :
    Ensures (sendSample field code succ s) P := by
  unfold Machine.sendSample
  split
  · exact .done (hsend _)
  · exact .raise (hraise _)

theorem Ensures.sendStamp {field : U32 → Byte} {code succ : BitVec 8} {s : State} {P : State → Prop}
    (hsend : ∀ b, P { (s.send b).goto succ with last := .next })
    (hraise : ∀ f, P { s with faults := s.faults ++ [f], last := .fault f }) :
    Ensures (sendStamp field code succ s) P := by
  unfold Machine.sendStamp
  split
  · exact .done (hsend _)
  · exact .raise (hraise _)

theorem Ensures.emit {s : State} {P : State → Prop}
    (hemit : ∀ v, s.sync.accS = some v →
      P { s.afterInterval.withSync (emitted s.cfg s.sync v s.interval) with last := .next })
    (hraise : ∀ f, P { s with faults := s.faults ++ [f], last := .fault f }) : Ensures (execEmit s) P := by
  unfold execEmit
  split
  · exact .raise (hraise _)
  · next h =>
    cases hv : s.sync.accS with
    | none => simp [emitUnwritten, hv] at h
    | some v => exact .done (hemit v hv)

theorem Ensures.linkDeliver {s : State} {P : State → Prop}
    (hdeliver : ∀ b, P { s.unqueue.receive b with last := .next })
    (hhold : P { s with last := .hold .link }) : Ensures (execLinkDeliver s) P := by
  unfold execLinkDeliver
  split
  · exact .ite (fun _ => .hold hhold) fun _ => .done (hdeliver _)
  · exact .hold hhold

/-- TMR takes no step of its own (R63). -/
theorem agent_ne_tmr (i : Instr) : i.agent ≠ .tmr := by
  cases i <;> exact nofun

/-! The frame of each agent (R95, R277): the parts of the state its instructions leave alone. -/

@[simp] theorem State.afterInterval_cfg (s : State) : s.afterInterval.cfg = s.cfg := by
  unfold State.afterInterval; split <;> rfl
@[simp] theorem State.afterInterval_seq (s : State) : s.afterInterval.seq = s.seq := by
  unfold State.afterInterval; split <;> rfl
@[simp] theorem State.afterInterval_adc (s : State) : s.afterInterval.adc = s.adc := by
  unfold State.afterInterval; split <;> rfl
@[simp] theorem State.afterInterval_link (s : State) : s.afterInterval.link = s.link := by
  unfold State.afterInterval; split <;> rfl
@[simp] theorem State.afterInterval_started (s : State) : s.afterInterval.started = s.started := by
  unfold State.afterInterval; split <;> rfl

/-- SEQ's instructions, the two device resets among them, write neither the configuration nor SYNC's state. -/
theorem exec_frame_seq {i : Instr} (hi : i.agent = .seq) (s : State) :
    Ensures (exec i s) fun t => t.cfg = s.cfg ∧ t.sync = s.sync := by
  cases i with
  | initClk | initPin | initPresc | initPwr | initSettle | initMode | initSmp | initSeqlen
  | convSel | convClr | convRead | txSync1 | txEnd | delay => exact .done ⟨rfl, rfl⟩
  | initDisChk | initDisWait | initCalWait | initRdyWait | convWait =>
    exact .ite (fun _ => .done ⟨rfl, rfl⟩) fun _ => .done ⟨rfl, rfl⟩
  | initCal | initEn | convStart => exact .ite (fun _ => .raise ⟨rfl, rfl⟩) fun _ => .done ⟨rfl, rfl⟩
  | txSync0 => refine .done ?_; cases s.cfg.tsDev <;> simp [captureStamp]
  | txLo | txHi => exact .sendSample (fun _ => ⟨rfl, rfl⟩) fun _ => ⟨rfl, rfl⟩
  | txTs0 | txTs1 | txTs2 | txTs3 => exact .sendStamp (fun _ => ⟨rfl, rfl⟩) fun _ => ⟨rfl, rfl⟩
  | resetPor => refine .done ?_; cases s.started <;> simp
  | resetWarm => exact .ite (fun _ => .done ⟨rfl, rfl⟩) fun _ => .hold ⟨rfl, rfl⟩
  | _ => cases hi

/-- The converter's steps write the converter alone. -/
theorem exec_frame_adc {i : Instr} (hi : i.agent = .adc) (s : State) :
    Ensures (exec i s) fun t =>
      t.cfg = s.cfg ∧ t.seq = s.seq ∧ t.sync = s.sync ∧ t.link = s.link ∧ t.started = s.started := by
  cases i with
  | adcDisDone | adcCalDone | adcReady | adcConvDone =>
    exact .ite (fun _ => .done ⟨rfl, rfl, rfl, rfl, rfl⟩) fun _ => .hold ⟨rfl, rfl, rfl, rfl, rfl⟩
  | _ => cases hi

/-- SYNC's instructions write neither the device nor the link. -/
theorem exec_frame_sync {i : Instr} (hi : i.agent = .sync) (s : State) :
    Ensures (exec i s) fun t =>
      t.cfg = s.cfg ∧ t.seq = s.seq ∧ t.adc = s.adc ∧ t.link = s.link ∧ t.started = s.started := by
  cases i with
  | seek1Sync | seek1Discard b | seek2Sync | seek2Miss b | rs0Lo b | rs1Hi b
  | rt0B0 b | rt1B1 b | rt2B2 b | rt3B3 b => exact .done ⟨rfl, rfl, rfl, rfl, rfl⟩
  | emit =>
    refine .emit (fun v _ => ?_) fun _ => ⟨rfl, rfl, rfl, rfl, rfl⟩
    simp
  | eosEnd st => exact .ite (fun _ => .done ⟨rfl, rfl, rfl, rfl, rfl⟩) fun _ => .hold ⟨rfl, rfl, rfl, rfl, rfl⟩
  | ended => exact .hold ⟨rfl, rfl, rfl, rfl, rfl⟩
  | _ => cases hi

/-- The events of LINK and HOST write no device state. -/
theorem exec_frame_linkHost {i : Instr} (hi : i.agent = .link ∨ i.agent = .host) (s : State) :
    Ensures (exec i s) fun t => t.cfg = s.cfg ∧ t.seq = s.seq ∧ t.adc = s.adc ∧ t.started = s.started := by
  cases i with
  | linkDeliver => exact .linkDeliver (fun _ => ⟨rfl, rfl, rfl, rfl⟩) ⟨rfl, rfl, rfl, rfl⟩
  | linkDrop | linkCorrupt | linkInsert | linkClose | hostStop =>
    exact .ite (fun _ => .hold ⟨rfl, rfl, rfl, rfl⟩) fun _ => .done ⟨rfl, rfl, rfl, rfl⟩
  | sessionStart => exact .ite (fun _ => .done ⟨rfl, rfl, rfl, rfl⟩) fun _ => .hold ⟨rfl, rfl, rfl, rfl⟩
  | _ => cases hi <;> contradiction

/-! Where an instruction is fetched (R32, R105 to R110, R201). -/

/-- Every row of the sequencer's table re-encodes to its code (R105). -/
theorem encode_of_decodeSeq {c : BitVec 8} {i : Instr} (h : decodeSeq c = .ok i) : encode i = .seq c :=
  have hrows : ∀ r ∈ seqTable, encode r.2 = .seq r.1 := by decide
  hrows _ (decodeSeq_mem h)

theorem encode_eventInstr (e : Event) : encode (eventInstr e) = .evt e.code := by
  cases e <;> rfl

/-- The steps without a byte re-encode to their state (R109). -/
theorem encode_of_decodeSyncInt {c : BitVec 4} {i : Instr} (h : decodeSyncInt c = .ok i) : encode i = .syncInt c := by
  have hrows : ∀ c : BitVec 4, ∀ r ∈ syncTable.find? (fun r => c &&& r.mask == r.mtch),
      encode (r.make c) = .syncInt c := by decide
  unfold decodeSyncInt at h
  split at h
  · next r hr =>
    cases h
    exact hrows c r hr
  · cases h

/-- SYNC's state in a token is its upper four bits (R107). -/
@[simp] theorem extractLsb'_tokenOf (st : BitVec 4) (b : Byte) : (tokenOf st b).extractLsb' 8 4 = st := by
  rw [tokenOf, BitVec.extractLsb'_append_eq_of_le (by decide)]
  simp

/-- A token decodes to a row's instruction, which is that of the token's state (R107, R108): every row's mask covers
the state bits. -/
theorem encode_of_decodeTok {t : BitVec 12} {i : Instr} (h : decodeTok t = .ok i) :
    ∃ b, encode i = .tok (tokenOf (t.extractLsb' 8 4) b) := by
  unfold decodeTok at h
  split at h
  · next r hr =>
    have hmask : ∀ r ∈ tokTable, r.mask.extractLsb' 8 4 = BitVec.allOnes 4 := by decide
    have hrow : ∀ r ∈ tokTable, ∀ b, ∃ b', encode (r.make b) = .tok (tokenOf (r.mtch.extractLsb' 8 4) b') := by
      simp only [tokTable, List.forall_mem_cons]
      exact ⟨fun _ => ⟨0xAA, rfl⟩, fun b => ⟨b, rfl⟩, fun _ => ⟨0xAA, rfl⟩, fun b => ⟨b, rfl⟩, fun b => ⟨b, rfl⟩,
        fun b => ⟨b, rfl⟩, fun b => ⟨b, rfl⟩, fun b => ⟨b, rfl⟩, fun b => ⟨b, rfl⟩, fun b => ⟨b, rfl⟩, nofun⟩
    have hmtch : t &&& r.mask = r.mtch := by simpa using List.find?_some hr
    have hmem := List.mem_of_find?_eq_some hr
    have hst : t.extractLsb' 8 4 = r.mtch.extractLsb' 8 4 := by
      rw [← hmtch, BitVec.extractLsb'_and, hmask r hmem, BitVec.and_allOnes]
    cases h
    rw [hst]
    exact hrow r hmem _
  · cases h

/-- The agent whose instruction `i` is stands in the state that instruction is fetched in. Events are fetched in any. -/
def At (i : Instr) (s : State) : Prop :=
  match encode i with
  | .seq c => s.seq.pc = c
  | .tok t => s.sync.st = t.extractLsb' 8 4
  | .syncInt c => s.sync.st = c
  | .evt _ => True

theorem at_of_decodeTok {s : State} {b : Byte} {i : Instr} (h : decodeTok (tokenOf s.sync.st b) = .ok i) : At i s := by
  obtain ⟨b', hb'⟩ := encode_of_decodeTok h
  simp [At, hb']

/-- Whatever is picked, the instruction it fetches is one of the state its agent stands in. -/
theorem at_of_fetch {p : Pick} {s : State} {i : Instr} (h : decode (s.fetch p) = .ok i) : At i s := by
  cases p with
  | seq => rw [At, encode_of_decodeSeq h]
  | sync =>
    by_cases hb : s.sync.rxq = [] ∨ 8 ≤ s.sync.st.toNat
    · rw [fetch_sync_without_byte hb] at h
      rw [At, encode_of_decodeSyncInt h]
    · obtain ⟨hq, hst⟩ := not_or.1 hb
      obtain ⟨b, bs, hq⟩ := List.exists_cons_of_ne_nil hq
      rw [fetch_sync_consuming hq (by omega)] at h
      exact at_of_decodeTok h
  | evt e =>
    obtain rfl : eventInstr e = i := by simpa [State.fetch] using h
    rw [At, encode_eventInstr]
    trivial

/-! From instructions to steps (R11). -/

/-- A property that neither the observation of the last step nor the choice of the next pick touches is kept by every
step as soon as every instruction keeps it where it is fetched. -/
theorem step_keeps {P : State → Prop} (hlast : ∀ s l, P s → P { s with last := l }) (hpick : ∀ s, P s → P s.afterPick)
    (hexec : ∀ i s, s.cfg.Wf → At i s → P s → Ensures (exec i s) P) {s t : State} (hs : P s)
    (h : step s = .next t) : P t := by
  obtain ⟨ho, ⟨-, -, rfl⟩ | ⟨-, i, hd, he⟩⟩ := step_next h
  · exact hlast _ _ (hpick s hs)
  · obtain ⟨hwf, -, -⟩ := (outside_eq_none_iff s).1 ho
    exact hexec i s.afterPick hwf (at_of_fetch ((fetch_afterPick s _).symm ▸ hd)) (hpick s hs) t he

end Sys2Proof.Machine
end

section
/-! Proofs of the statements about what no rule reads (R36, R40 to R44, R48, R50 to R52, R65, R75) and about the
power-on draw (R39). -/

namespace Sys2Proof.Machine

/-! What is recorded only. -/

/-- If both results are next states, these differ only in what is recorded. -/
def SameButRecorded (r r' : Result) : Prop :=
  ∀ t t', r = .next t → r' = .next t' → t.withoutObservations = t'.withoutObservations

theorem SameButRecorded.done {t t' : State}
    (h : State.withoutObservations { t with last := .next } = State.withoutObservations { t' with last := .next }) :
    SameButRecorded (done t) (done t') := by
  rintro _ _ ⟨⟩ ⟨⟩
  exact h

theorem SameButRecorded.hold {a : Agent} (s : State) : SameButRecorded (hold a s) (hold a s.withoutObservations) := by
  rintro _ _ ⟨⟩ ⟨⟩
  rfl

theorem SameButRecorded.raise {f : Fault} (s : State) :
    SameButRecorded (raise f s) (raise f s.withoutObservations) := by
  rintro _ _ ⟨⟩ ⟨⟩
  rfl

theorem SameButRecorded.ite {p : Prop} [Decidable p] {r₁ r₂ r₁' r₂' : Result} (h₁ : SameButRecorded r₁ r₁')
    (h₂ : SameButRecorded r₂ r₂') : SameButRecorded (if p then r₁ else r₂) (if p then r₁' else r₂') := by
  split
  · exact h₁
  · exact h₂

theorem sendSample_sameButRecorded (field : U16 → Byte) (code succ : BitVec 8) (s : State) :
    SameButRecorded (sendSample field code succ s) (sendSample field code succ s.withoutObservations) := by
  have hv : s.withoutObservations.seq.v = s.seq.v := rfl
  unfold sendSample
  rw [hv]
  cases s.seq.v with
  | some v => exact .done rfl
  | none => exact .raise s

theorem sendStamp_sameButRecorded (field : U32 → Byte) (code succ : BitVec 8) (s : State) :
    SameButRecorded (sendStamp field code succ s) (sendStamp field code succ s.withoutObservations) := by
  have hts : s.withoutObservations.seq.ts = s.seq.ts := rfl
  unfold sendStamp
  rw [hts]
  cases s.seq.ts with
  | some t => exact .done rfl
  | none => exact .raise s

theorem execTxSync0_sameButRecorded (s : State) :
    SameButRecorded (execTxSync0 s) (execTxSync0 s.withoutObservations) := by
  refine .done ?_
  have hcfg : s.withoutObservations.cfg = s.cfg := rfl
  simp only [hcfg]
  cases s.cfg.tsDev <;> rfl

theorem execEmit_sameButRecorded (s : State) : SameButRecorded (execEmit s) (execEmit s.withoutObservations) := by
  have hf : emitUnwritten s.withoutObservations = emitUnwritten s := rfl
  unfold execEmit
  rw [hf]
  cases emitUnwritten s with
  | some f => exact .raise s
  | none =>
    refine .done ?_
    have hcfg : s.withoutObservations.cfg = s.cfg := rfl
    simp only [State.afterInterval, State.interval, hcfg]
    cases s.cfg.tsHost <;> rfl

theorem execLinkDeliver_sameButRecorded (s : State) :
    SameButRecorded (execLinkDeliver s) (execLinkDeliver s.withoutObservations) := by
  have hq : s.withoutObservations.link.q = s.link.q := rfl
  unfold execLinkDeliver
  rw [hq]
  cases s.link.q with
  | cons b bs => exact .ite (.hold s) (.done rfl)
  | nil => exact .hold s

theorem execResetPor_sameButRecorded (s : State) :
    SameButRecorded (execResetPor s) (execResetPor s.withoutObservations) := by
  refine .done ?_
  have hs : s.withoutObservations.started = s.started := rfl
  simp only [hs]
  cases s.started <;> rfl

/-- No meaning reads what is recorded only: run without it, every instruction does the same but for what it records. -/
theorem exec_sameButRecorded (i : Instr) (s : State) :
    SameButRecorded (exec i s) (exec i s.withoutObservations) :=
  match i with
  | .initClk | .initPin | .initPresc | .initPwr | .initSettle | .initMode | .initSmp | .initSeqlen
  | .convSel | .convClr | .convRead | .txSync1 | .txEnd | .delay
  | .seek1Sync | .seek1Discard _ | .seek2Sync | .seek2Miss _ | .rs0Lo _ | .rs1Hi _
  | .rt0B0 _ | .rt1B1 _ | .rt2B2 _ | .rt3B3 _ => .done rfl
  | .initDisChk | .initDisWait | .initCalWait | .initRdyWait | .convWait => .ite (.done rfl) (.done rfl)
  | .initCal | .initEn | .convStart => .ite (.raise s) (.done rfl)
  | .txSync0 => execTxSync0_sameButRecorded s
  | .txLo | .txHi => sendSample_sameButRecorded _ _ _ s
  | .txTs0 | .txTs1 | .txTs2 | .txTs3 => sendStamp_sameButRecorded _ _ _ s
  | .emit => execEmit_sameButRecorded s
  | .ended => .hold s
  | .eosEnd _ | .adcDisDone | .adcCalDone | .adcReady | .adcConvDone | .resetWarm | .sessionStart =>
    .ite (.done rfl) (.hold s)
  | .linkDeliver => execLinkDeliver_sameButRecorded s
  | .linkDrop | .linkCorrupt | .linkInsert | .linkClose | .hostStop => .ite (.hold s) (.done rfl)
  | .resetPor => execResetPor_sameButRecorded s

/-- Settles O37: two states that differ only in what is recorded are the same without it, and each steps as it does
without it. -/
theorem recordedFieldsAreNeverRead : Obligations.RecordedFieldsAreNeverRead := by
  intro i s t s' t' hst hs ht
  obtain ⟨u, hu⟩ := (exec_ends i s.withoutObservations).next
  have hs' := exec_sameButRecorded i s s' u hs hu
  have ht' := exec_sameButRecorded i t t' u ht (hst ▸ hu)
  exact hs'.trans ht'.symm

/-! The power-on draw. -/

/-- A canonical store is brought into canonical form by leaving it as it is. -/
theorem chanCanon_of_wf {m : ChanMap} (h : chanWf m) : chanCanon m = m := by
  induction m with
  | nil => rfl
  | cons p m ih =>
    obtain ⟨hlt, hm⟩ := List.pairwise_cons.1 h.1
    have hp : p.2 ≠ 0 := h.2 p List.mem_cons_self
    have htail : chanCanon m = m := ih ⟨hm, fun q hq => h.2 q (List.mem_cons_of_mem _ hq)⟩
    show chanWrite (chanCanon m) p.1 p.2 = p :: m
    rw [htail]
    cases m with
    | nil => exact if_neg hp
    | cons q m => simp [chanWrite, hlt q List.mem_cons_self, hp]

/-- Every draw is made a legal converter state (R39, R50, log 7). -/
theorem legalise_legal (a : Adc) : a.legalise.legal := by
  have hres : 1 ≤ a.ranged.ressel ∧ a.ranged.ressel ≤ 16 := by
    unfold Adc.ranged
    dsimp only
    split
    · assumption
    · decide
  have hsmp : chanWf a.ranged.smp := chanCanon_wf a.smp
  unfold Adc.legalise
  split
  · next hc => exact ⟨hc, hres.1, hres.2, hsmp⟩
  · refine ⟨?_, hres.1, hres.2, hsmp⟩
    simp [Adc.consistent]

/-- A legal draw is left as it is. -/
theorem legalise_of_legal {a : Adc} (h : a.legal) : a.legalise = a := by
  obtain ⟨hc, hlo, hhi, hsmp⟩ := h
  have hr : a.ranged = a := by
    unfold Adc.ranged
    rw [if_pos ⟨hlo, hhi⟩, chanCanon_of_wf hsmp]
  rw [Adc.legalise, hr, if_pos hc]

/-- Settles O15: the draw is the head of `env.power`, or the free value, made legal. -/
theorem powerUpDrawIsLegal : Obligations.PowerUpDrawIsLegal := by
  refine ⟨fun s => ⟨legalise_legal _, fun p ps hp => ?_, fun hp => ?_⟩, fun s p hl => ?_⟩
  · have hd : s.powerUp = { p with adc := p.adc.legalise } := by simp [State.powerUp, hp]
    rw [hd]
    exact ⟨rfl, legalise_of_legal⟩
  · have hd : s.powerUp = { Config.freePowerUp s.env.tick with
        adc := (Config.freePowerUp s.env.tick).adc.legalise } := by simp [State.powerUp, hp]
    rw [hd]
    exact ⟨rfl, legalise_of_legal⟩
  · simp [State.powerUp, legalise_of_legal hl]

end Sys2Proof.Machine
end

section
/-! Proofs of the statements about the converter: what every instruction can do to it (R131 to R163, R300), its flags
(R62), its consistency (R61), and what the initialisation has established (R145). -/

namespace Sys2Proof.Machine

/-! What an instruction can do to SEQ's state and the converter. -/

/-- `Moves s i c`: taken in `s`, `i` sends SEQ to state `c` and writes no converter field. -/
inductive Moves (s : State) : Instr → BitVec 8 → Prop where
  | initDisChk (h : s.adc.inUse = false) : Moves s .initDisChk 0x06
  | initDisWait (h : s.adc.disableDone = true) : Moves s .initDisWait 0x06
  | initSettle : Moves s .initSettle 0x08
  | initCalWait (h : s.adc.calDone = true) : Moves s .initCalWait 0x0A
  | initRdyWait (h : s.adc.isReady = true) : Moves s .initRdyWait 0x10
  | convWait (h : s.adc.convDone = true) : Moves s .convWait 0x14
  /-- CONV_READ and the steps of the frame, from 0x14 or beyond to a step of the frame or the delay. -/
  | onward {i : Instr} {k c : BitVec 8} (hi : encode i = .seq k) (hk : 0x14 ≤ k.toNat) (hc : 0x20 ≤ c.toNat) :
      Moves s i c
  | delay : Moves s .delay 0x10
  | resetWarm : Moves s .resetWarm 0x01

/-- `DeviceStep s i c a`: what `i` can do to the device in `s`, each write under the condition it is made under; `c` is
SEQ's state and `a` the converter after it. -/
inductive DeviceStep (s : State) : Instr → BitVec 8 → Adc → Prop where
  /-- A poll that stays, a fault, a hold, or a step of an agent that has no part in the device. -/
  | stay {i : Instr} : DeviceStep s i s.seq.pc s.adc
  | move {i : Instr} {c : BitVec 8} (h : Moves s i c) : DeviceStep s i c s.adc
  | initClk : DeviceStep s .initClk 0x02 { s.adc with clkAdc := true, clkPort := true }
  | initPin : DeviceStep s .initPin 0x03 { s.adc with pinMode := .analog, pinDigOff := true }
  | initPresc : DeviceStep s .initPresc 0x04 { s.adc with presc := s.cfg.prescSel }
  | initDisChk (h : s.adc.inUse = true) : DeviceStep s .initDisChk 0x05 { s.adc with disReq := true }
  | initPwr : DeviceStep s .initPwr 0x07 { s.adc with dpd := false, regen := true }
  | initCal (h : s.adc.enabled = false) : DeviceStep s .initCal 0x09 { s.adc with cal := true }
  | initMode : DeviceStep s .initMode 0x0B { s.adc with cont := false, ressel := s.cfg.res }
  | initSmp : DeviceStep s .initSmp 0x0C { s.adc with smp := chanWrite s.adc.smp s.cfg.adcCh s.cfg.smpSel }
  | initSeqlen : DeviceStep s .initSeqlen 0x0D { s.adc with seqLen := 1 }
  | initEn (hcal : s.adc.cal = false) (hen : s.adc.enabled = false) :
      DeviceStep s .initEn 0x0E { s.adc with enReq := true }
  | convSel : DeviceStep s .convSel 0x11 { s.adc with seqCh1 := s.cfg.adcCh }
  | convClr : DeviceStep s .convClr 0x12 { s.adc with eoc := false }
  | convStart (hen : s.adc.enabled = true) (hrdy : s.adc.rdy = true) :
      DeviceStep s .convStart 0x13 { s.adc with start := true }
  | adcDisDone (h : s.adc.disReq = true) :
      DeviceStep s .adcDisDone s.seq.pc
        { s.adc with enabled := false, rdy := false, start := false, enReq := false, disReq := false }
  | adcCalDone (h : s.adc.cal = true) :
      DeviceStep s .adcCalDone s.seq.pc { s.adc with calFact := s.calDraw, cal := false }
  | adcReady (hreq : s.adc.enReq = true) (hdis : s.adc.disReq = false) (hcal : s.adc.cal = false)
      (hdpd : s.adc.dpd = false) (hreg : s.adc.regen = true) :
      DeviceStep s .adcReady s.seq.pc { s.adc with enabled := true, rdy := true, enReq := false }
  | adcConvDone (hstart : s.adc.start = true) (hen : s.adc.enabled = true) :
      DeviceStep s .adcConvDone s.seq.pc
        { s.adc with dr := s.analogDraw, eoc := true, start := if s.adc.cont then s.adc.start else false }
  | resetPor : DeviceStep s .resetPor 0x01 s.powerUp.adc

/-- `t` is a state that `i` can leave the device in, taken in `s`, with the configuration of `s`. -/
def DeviceAfter (i : Instr) (s t : State) : Prop := t.cfg = s.cfg ∧ DeviceStep s i t.seq.pc t.adc

theorem DeviceAfter.of_eq {i : Instr} {s t : State} (hc : t.cfg = s.cfg) (hq : t.seq = s.seq) (ha : t.adc = s.adc) :
    DeviceAfter i s t := by
  refine ⟨hc, ?_⟩
  rw [hq, ha]
  exact .stay

/-- SEQ's instructions, the two device resets among them. -/
theorem exec_device_seq {i : Instr} (hi : i.agent = .seq) (s : State) : Ensures (exec i s) (DeviceAfter i s) := by
  cases i with
  | initClk => exact .done ⟨rfl, .initClk⟩
  | initPin => exact .done ⟨rfl, .initPin⟩
  | initPresc => exact .done ⟨rfl, .initPresc⟩
  | initDisChk =>
    exact .ite (fun h => .done ⟨rfl, .initDisChk h⟩) fun h => .done ⟨rfl, .move (.initDisChk (by simpa using h))⟩
  | initDisWait => exact .ite (fun h => .done ⟨rfl, .move (.initDisWait h)⟩) fun _ => .done ⟨rfl, .stay⟩
  | initPwr => exact .done ⟨rfl, .initPwr⟩
  | initSettle => exact .done ⟨rfl, .move .initSettle⟩
  | initCal =>
    exact .ite (fun _ => .raise ⟨rfl, .stay⟩) fun h => .done ⟨rfl, .initCal (by simpa [Adc.calForbidden] using h)⟩
  | initCalWait => exact .ite (fun h => .done ⟨rfl, .move (.initCalWait h)⟩) fun _ => .done ⟨rfl, .stay⟩
  | initMode => exact .done ⟨rfl, .initMode⟩
  | initSmp => exact .done ⟨rfl, .initSmp⟩
  | initSeqlen => exact .done ⟨rfl, .initSeqlen⟩
  | initEn =>
    refine .ite (fun _ => .raise ⟨rfl, .stay⟩) fun h => .done ⟨rfl, ?_⟩
    simp only [enableForbidden_iff, not_or, Bool.not_eq_true] at h
    exact .initEn h.1 h.2
  | initRdyWait => exact .ite (fun h => .done ⟨rfl, .move (.initRdyWait h)⟩) fun _ => .done ⟨rfl, .stay⟩
  | convSel => exact .done ⟨rfl, .convSel⟩
  | convClr => exact .done ⟨rfl, .convClr⟩
  | convStart =>
    refine .ite (fun _ => .raise ⟨rfl, .stay⟩) fun h => .done ⟨rfl, ?_⟩
    simp only [startForbidden_iff, not_or, Bool.not_eq_false] at h
    exact .convStart h.1 h.2
  | convWait => exact .ite (fun h => .done ⟨rfl, .move (.convWait h)⟩) fun _ => .done ⟨rfl, .stay⟩
  | convRead | txSync1 | txEnd => exact .done ⟨rfl, .move (.onward rfl (by decide) (by simp))⟩
  | txSync0 =>
    refine .done ?_
    cases s.cfg.tsDev <;> exact ⟨rfl, .move (.onward rfl (by decide) (by simp))⟩
  | txLo => exact .sendSample (fun _ => ⟨rfl, .move (.onward rfl (by decide) (by simp))⟩) fun _ => ⟨rfl, .stay⟩
  | txHi =>
    refine .sendSample (fun _ => ⟨rfl, .move (.onward rfl (by decide) ?_)⟩) fun _ => ⟨rfl, .stay⟩
    cases s.cfg.tsDev <;> simp
  | txTs0 | txTs1 | txTs2 | txTs3 =>
    exact .sendStamp (fun _ => ⟨rfl, .move (.onward rfl (by decide) (by simp))⟩) fun _ => ⟨rfl, .stay⟩
  | delay => exact .done ⟨rfl, .move .delay⟩
  | resetPor =>
    refine .done ?_
    cases s.started <;> exact ⟨rfl, .resetPor⟩
  | resetWarm => exact .ite (fun _ => .done ⟨rfl, .move .resetWarm⟩) fun _ => .hold ⟨rfl, .stay⟩
  | _ => cases hi

/-- The converter's own steps. -/
theorem exec_device_adc {i : Instr} (hi : i.agent = .adc) (s : State) : Ensures (exec i s) (DeviceAfter i s) := by
  cases i with
  | adcDisDone => exact .ite (fun h => .done ⟨rfl, .adcDisDone h⟩) fun _ => .hold ⟨rfl, .stay⟩
  | adcCalDone => exact .ite (fun h => .done ⟨rfl, .adcCalDone h⟩) fun _ => .hold ⟨rfl, .stay⟩
  | adcReady =>
    refine .ite (fun h => .done ⟨rfl, ?_⟩) fun _ => .hold ⟨rfl, .stay⟩
    obtain ⟨hreq, hdis, hcal, hdpd, hreg⟩ := (canReady_iff _).1 h
    exact .adcReady hreq hdis hcal hdpd hreg
  | adcConvDone =>
    refine .ite (fun h => .done ⟨rfl, ?_⟩) fun _ => .hold ⟨rfl, .stay⟩
    obtain ⟨hstart, hen⟩ := (canConvert_iff _).1 h
    exact .adcConvDone hstart hen
  | _ => cases hi

/-- Everything an instruction can do to the device. -/
theorem exec_device (i : Instr) (s : State) : Ensures (exec i s) (DeviceAfter i s) := by
  intro t ht
  cases hi : i.agent with
  | seq => exact exec_device_seq hi s t ht
  | adc => exact exec_device_adc hi s t ht
  | sync =>
    obtain ⟨hc, hq, ha, -⟩ := exec_frame_sync hi s t ht
    exact .of_eq hc hq ha
  | link =>
    obtain ⟨hc, hq, ha, -⟩ := exec_frame_linkHost (.inl hi) s t ht
    exact .of_eq hc hq ha
  | host =>
    obtain ⟨hc, hq, ha, -⟩ := exec_frame_linkHost (.inr hi) s t ht
    exact .of_eq hc hq ha
  | tmr => exact absurd hi (agent_ne_tmr i)

/-! The flags (R62). -/

/-- Settles O44: of what an instruction can do to the device, only the listed steps change a flag. -/
theorem flagsWrittenOnlyAsListed : Obligations.FlagsWrittenOnlyAsListed := by
  intro i s t ht hi
  obtain ⟨-, hd⟩ := exec_device i s t ht
  generalize t.seq.pc = c, t.adc = a at hd
  cases hd with
  | resetPor => exact absurd rfl hi
  | adcConvDone => cases s.adc.cont <;> simp
  | _ => simp

/-! Consistency (R61) and the ranges of the fields (R50, log 7). -/

/-- R61 is kept clause by clause: whatever sets RDY, START, ENABLED or CAL, or clears REGEN, is guarded. -/
theorem deviceStep_consistent {s : State} {i : Instr} {c : BitVec 8} {a : Adc} (hs : s.adc.consistent = true)
    (h : DeviceStep s i c a) : a.consistent = true := by
  obtain ⟨hrdy, hstart, hpower, hcal⟩ := (consistent_iff _).1 hs
  cases h with
  | stay | move | initClk | initPin | initPresc | initDisChk | initMode | initSmp | initSeqlen | initEn
  | convSel | convClr => exact hs
  | initPwr => exact (consistent_iff _).2 ⟨hrdy, hstart, fun _ => ⟨rfl, rfl⟩, hcal⟩
  | initCal h => exact (consistent_iff _).2 ⟨hrdy, hstart, hpower, fun _ => h⟩
  | convStart hen => exact (consistent_iff _).2 ⟨hrdy, fun _ => hen, hpower, hcal⟩
  | adcDisDone => exact (consistent_iff _).2 ⟨nofun, nofun, nofun, fun _ => rfl⟩
  | adcCalDone => exact (consistent_iff _).2 ⟨hrdy, hstart, hpower, nofun⟩
  | adcReady hreq hdis hcal' hdpd hreg =>
    exact (consistent_iff _).2 ⟨fun _ => rfl, fun _ => rfl, fun _ => ⟨hdpd, hreg⟩, fun h => by simp [hcal'] at h⟩
  | adcConvDone hstart' hen => exact (consistent_iff _).2 ⟨hrdy, fun _ => hen, hpower, hcal⟩
  | resetPor => exact (legalise_legal _).1

/-- Settles O51: nothing an instruction can do to the converter breaks R61. -/
theorem stepKeepsConverterConsistent : Obligations.StepKeepsConverterConsistent := by
  intro s t hs h
  refine step_keeps (P := fun s => s.adc.consistent = true) (fun _ _ h => h) (fun _ h => h) ?_ hs h
  intro i s _ _ hs t ht
  exact deviceStep_consistent hs (exec_device i s t ht).2

/-- INIT_MODE takes its resolution from a well-formed configuration, and every write of `SMP` keeps it canonical. -/
theorem deviceStep_legal {s : State} {i : Instr} {c : BitVec 8} {a : Adc} (hwf : s.cfg.Wf) (hs : s.adc.legal)
    (h : DeviceStep s i c a) : a.legal := by
  obtain ⟨hc, hlo, hhi, hsmp⟩ := hs
  obtain ⟨hreslo, hreshi, -⟩ := hwf
  refine ⟨deviceStep_consistent hc h, ?_⟩
  cases h with
  | initMode => exact ⟨hreslo, hreshi, hsmp⟩
  | initSmp => exact ⟨hlo, hhi, chanWrite_wf _ _ hsmp⟩
  | resetPor => exact (legalise_legal _).2
  | _ => exact ⟨hlo, hhi, hsmp⟩

/-! What the initialisation has established (R131 to R145). -/

/-- The clauses of `DeviceInv` but for R61 and the ranges, of a configuration, a sequencer state and a converter. -/
def Established (c : Config) (pc : Nat) (a : Adc) : Prop :=
  (0x02 ≤ pc → a.clkAdc = true ∧ a.clkPort = true) ∧
  (0x03 ≤ pc → a.pinMode = .analog ∧ a.pinDigOff = true) ∧
  (0x04 ≤ pc → a.presc = c.prescSel) ∧
  (pc = 0x05 → a.disReq = true ∨ (a.enabled = false ∧ a.enReq = false)) ∧
  (0x06 ≤ pc → pc ≤ 0x0D → a.enabled = false ∧ a.enReq = false) ∧
  (0x07 ≤ pc → a.dpd = false ∧ a.regen = true) ∧
  (0x0A ≤ pc → a.cal = false) ∧
  (0x0B ≤ pc → a.cont = false ∧ a.ressel = c.res) ∧
  (0x0C ≤ pc → chanRead a.smp c.adcCh = c.smpSel) ∧
  (0x0D ≤ pc → a.seqLen = 1) ∧
  (0x0E ≤ pc → a.enabled = true → a.disReq = false ∧ a.enReq = false) ∧
  (0x10 ≤ pc → a.enabled = true ∧ a.rdy = true) ∧
  (0x0E ≤ pc → pc ≠ 0x13 → a.start = false) ∧
  (pc = 0x12 → a.eoc = false) ∧
  (pc = 0x13 → a.start = !a.eoc)

/-- `DeviceInv` is R61 with the ranges, and what is established where SEQ stands. -/
theorem deviceInv_iff (s : State) : DeviceInv s ↔ s.adc.legal ∧ Established s.cfg s.seq.pc.toNat s.adc := by
  constructor
  · rintro ⟨legal, clocks, pin, presc, disWait, idle, power, calOff, mode, smp, seqLen, calm, running, single, cleared,
      convert⟩
    exact ⟨legal, clocks, pin, presc, disWait, idle, power, calOff, mode, smp, seqLen, calm, running, single, cleared,
      convert⟩
  · rintro ⟨legal, clocks, pin, presc, disWait, idle, power, calOff, mode, smp, seqLen, calm, running, single, cleared,
      convert⟩
    exact ⟨legal, clocks, pin, presc, disWait, idle, power, calOff, mode, smp, seqLen, calm, running, single, cleared,
      convert⟩

/-- SEQ moves on without a write only where what the next state asks for already holds. -/
theorem moves_established {s : State} {i : Instr} {c : BitVec 8} (hs : s.adc.legal) (hat : At i s)
    (h : Established s.cfg s.seq.pc.toNat s.adc) (hm : Moves s i c) : Established s.cfg c.toNat s.adc := by
  cases hm with
  | initDisChk hu =>
    have hpc : s.seq.pc = 0x04 := hat
    have hidle : s.adc.enabled = false ∧ s.adc.enReq = false := by simpa [Adc.inUse] using hu
    simpa [Established, hpc, hidle] using h
  | initDisWait hu =>
    have hpc : s.seq.pc = 0x05 := hat
    obtain ⟨hen, hdis⟩ := (disableDone_iff _).1 hu
    simpa [Established, hpc, hen, hdis] using h
  | initSettle =>
    have hpc : s.seq.pc = 0x07 := hat
    simpa [Established, hpc] using h
  | initCalWait hu =>
    have hpc : s.seq.pc = 0x09 := hat
    have hcal : s.adc.cal = false := by simpa [Adc.calDone] using hu
    simpa [Established, hpc, hcal] using h
  | initRdyWait hu =>
    have hpc : s.seq.pc = 0x0E := hat
    have hrdy : s.adc.rdy = true := hu
    obtain ⟨hen, -⟩ := (consistent_iff _).1 hs.1
    simpa [Established, hpc, hrdy, hen hrdy] using h
  | convWait hu =>
    have hpc : s.seq.pc = 0x13 := hat
    have heoc : s.adc.eoc = true := hu
    simpa [Established, hpc, heoc] using h
  | onward hi hk hc =>
    obtain rfl : s.seq.pc = _ := by simpa only [At, hi] using hat
    obtain ⟨clocks, pin, presc, disWait, idle, power, calOff, mode, smp, seqLen, calm, running, single, cleared,
      convert⟩ := h
    exact ⟨fun _ => clocks (by omega), fun _ => pin (by omega), fun _ => presc (by omega), fun h5 => by omega,
      fun h6 h13 => by omega, fun _ => power (by omega), fun _ => calOff (by omega), fun _ => mode (by omega),
      fun _ => smp (by omega), fun _ => seqLen (by omega), fun _ => calm (by omega), fun _ => running (by omega),
      fun _ _ => single (by omega) (by omega), fun h18 => by omega, fun h19 => by omega⟩
  | delay =>
    have hpc : s.seq.pc = 0x30 := hat
    simpa [Established, hpc] using h
  | resetWarm => simp [Established]

/-- SEQ's writes establish what their next state asks for. The converter's steps undo nothing: where SEQ stands beyond
the enabling no disable and no enable is pending, and only CONV_WAIT has a conversion in progress. -/
theorem deviceStep_established {s : State} {i : Instr} {c : BitVec 8} {a : Adc} (hs : s.adc.legal) (hat : At i s)
    (h : Established s.cfg s.seq.pc.toNat s.adc) (hd : DeviceStep s i c a) : Established s.cfg c.toNat a := by
  cases hd with
  | stay => exact h
  | move hm => exact moves_established hs hat h hm
  | initClk | resetPor => simp [Established]
  | initPin | initPresc | initDisChk | initPwr | initCal | initMode | initSeqlen | convSel | convClr =>
    simp only [At, encode] at hat
    simpa [Established, hat] using h
  | initSmp =>
    have hpc : s.seq.pc = 0x0B := hat
    obtain ⟨-, -, -, hsmp⟩ := hs
    simpa [Established, hpc, chanRead_write_same _ _ _ hsmp] using h
  | initEn hcal hen =>
    have hpc : s.seq.pc = 0x0D := hat
    obtain ⟨-, hstart, -⟩ := (consistent_iff _).1 hs.1
    have hstart : s.adc.start = false := by simpa [hen] using hstart
    simp only [Established, hpc] at h
    simp [Established, h, hstart]
  | convStart =>
    have hpc : s.seq.pc = 0x12 := hat
    simp only [Established, hpc] at h
    simp [Established, h]
  | adcDisDone hdis =>
    obtain ⟨clocks, pin, presc, disWait, idle, power, calOff, mode, smp, seqLen, calm, running, single, cleared,
      convert⟩ := h
    have hrun : ¬ 0x10 ≤ s.seq.pc.toNat := fun hr => by simp [calm (by omega) (running hr).1] at hdis
    exact ⟨clocks, pin, presc, fun _ => .inr ⟨rfl, rfl⟩, fun _ _ => ⟨rfl, rfl⟩, power, calOff, mode, smp, seqLen,
      fun _ => nofun, fun hr => absurd hr hrun, fun _ _ => rfl, cleared, fun hr => absurd (by omega) hrun⟩
  | adcCalDone hcal =>
    obtain ⟨clocks, pin, presc, disWait, idle, power, calOff, rest⟩ := h
    exact ⟨clocks, pin, presc, disWait, idle, power, fun _ => rfl, rest⟩
  | adcReady hreq hdis =>
    obtain ⟨clocks, pin, presc, disWait, idle, power, calOff, mode, smp, seqLen, calm, running, single, cleared,
      convert⟩ := h
    have hwait : s.seq.pc.toNat ≠ 0x05 := fun h5 => by simpa [hdis, hreq] using disWait h5
    have hidle : ¬ (0x06 ≤ s.seq.pc.toNat ∧ s.seq.pc.toNat ≤ 0x0D) := fun h => by simpa [hreq] using idle h.1 h.2
    exact ⟨clocks, pin, presc, fun h5 => absurd h5 hwait, fun h6 h13 => absurd ⟨h6, h13⟩ hidle, power, calOff, mode,
      smp, seqLen, fun _ _ => ⟨hdis, rfl⟩, fun _ => ⟨rfl, rfl⟩, single, cleared, convert⟩
  | adcConvDone hstart =>
    obtain ⟨clocks, pin, presc, disWait, idle, power, calOff, mode, smp, seqLen, calm, running, single, cleared,
      convert⟩ := h
    have hconv : 0x0E ≤ s.seq.pc.toNat → s.seq.pc.toNat = 0x13 := fun h14 => by
      by_contra h19
      simp [single h14 h19] at hstart
    exact ⟨clocks, pin, presc, disWait, idle, power, calOff, mode, smp, seqLen, calm, running,
      fun h14 h19 => absurd (hconv h14) h19, fun h18 => absurd (hconv (by omega)) (by omega),
      fun h19 => by simp [mode (by omega)]⟩

/-- Settles O52: R61 and the ranges are kept by every step, and what is established where SEQ stands by every
instruction fetched there. -/
theorem stepKeepsDeviceInv : Obligations.StepKeepsDeviceInv := by
  intro s t hs h
  refine step_keeps (P := DeviceInv) (fun _ _ h => { h with }) (fun _ h => { h with }) ?_ hs h
  intro i s hwf hat hs t ht
  obtain ⟨hcfg, hd⟩ := exec_device i s t ht
  obtain ⟨hl, he⟩ := (deviceInv_iff s).1 hs
  rw [deviceInv_iff, hcfg]
  exact ⟨deviceStep_legal hwf hl hd, deviceStep_established hl hat he hd⟩

end Sys2Proof.Machine
end

section
/-! Proof of the statement about SEQ's registers and pins (R32 to R34, R154, R156, R194). -/

namespace Sys2Proof.Machine

/-! The sample is masked (R154). -/

theorem toNat_resMask_lt (k : Nat) : (resMask k).toNat < 2 ^ k := by
  have hpos : 0 < 2 ^ k := Nat.two_pow_pos k
  have hle : (2 ^ k - 1) % 2 ^ 16 ≤ 2 ^ k - 1 := Nat.mod_le _ _
  simp only [resMask, BitVec.toNat_ofNat]
  omega

theorem toNat_maskSample_lt (res : Nat) (dr : U16) : (maskSample res dr).toNat < 2 ^ res := by
  have hle : (maskSample res dr).toNat ≤ (resMask res).toNat := by
    rw [maskSample, BitVec.toNat_and]
    exact Nat.and_le_right
  exact lt_of_le_of_lt hle (toNat_resMask_lt res)

/-! What SEQ's registers satisfy where SEQ stands. -/

/-- The clauses of `SeqInv` but for the listed state, of a configuration and SEQ's registers. -/
def Registers (c : Config) (q : Seq) : Prop :=
  (q.diagConv = true ↔ q.pc = 0x13 ∨ q.pc = 0x14) ∧
  (q.diagTx = true ↔ 0x21 ≤ q.pc.toNat ∧ q.pc.toNat ≤ 0x28) ∧
  (∀ v, q.v = some v → v.toNat < 2 ^ c.res) ∧
  (0x20 ≤ q.pc.toNat → q.v.isSome = true) ∧
  (0x21 ≤ q.pc.toNat → q.pc.toNat ≤ 0x28 → c.tsDev = true → q.ts.isSome = true) ∧
  (0x24 ≤ q.pc.toNat → q.pc.toNat ≤ 0x27 → c.tsDev = true)

theorem seqInv_iff (s : State) : SeqInv s ↔ listedPc s.seq.pc = true ∧ Registers s.cfg s.seq := by
  constructor
  · rintro ⟨listed, convPin, txPin, masked, vWritten, stamped, tsMode⟩
    exact ⟨listed, convPin, txPin, masked, vWritten, stamped, tsMode⟩
  · rintro ⟨listed, convPin, txPin, masked, vWritten, stamped, tsMode⟩
    exact ⟨listed, convPin, txPin, masked, vWritten, stamped, tsMode⟩

/-- SEQ's instructions, where they are fetched. A poll that stays, a fault and a hold leave the registers alone. -/
theorem exec_seqInv_seq {i : Instr} (hi : i.agent = .seq) {s : State} (hat : At i s)
    (h : listedPc s.seq.pc = true ∧ Registers s.cfg s.seq) :
    Ensures (exec i s) fun t => listedPc t.seq.pc = true ∧ Registers t.cfg t.seq := by
  obtain ⟨-, hreg⟩ := id h
  cases i with
  | initClk | initPin | initPresc | initPwr | initSettle | initMode | initSmp | initSeqlen | convSel | convClr
  | txSync1 | txEnd | delay =>
    simp only [Registers, show s.seq.pc = _ from hat] at hreg
    exact .done ⟨rfl, by simp +contextual [Registers, hreg]⟩
  | initDisChk =>
    simp only [Registers, show s.seq.pc = _ from hat] at hreg
    exact .ite (fun _ => .done ⟨rfl, by simp +contextual [Registers, hreg]⟩) fun _ =>
      .done ⟨rfl, by simp +contextual [Registers, hreg]⟩
  | initDisWait | initCalWait | initRdyWait | convWait =>
    simp only [Registers, show s.seq.pc = _ from hat] at hreg
    exact .ite (fun _ => .done ⟨rfl, by simp +contextual [Registers, hreg]⟩) fun _ => .done h
  | initCal | initEn | convStart =>
    simp only [Registers, show s.seq.pc = _ from hat] at hreg
    exact .ite (fun _ => .raise h) fun _ => .done ⟨rfl, by simp +contextual [Registers, hreg]⟩
  | convRead =>
    simp only [Registers, show s.seq.pc = _ from hat] at hreg
    exact .done ⟨rfl, by simp +contextual [Registers, hreg, toNat_maskSample_lt]⟩
  | txSync0 =>
    simp only [Registers, show s.seq.pc = _ from hat] at hreg
    refine .done ?_
    cases hts : s.cfg.tsDev <;> exact ⟨rfl, by simp +contextual [Registers, hreg, hts, captureStamp]⟩
  | txLo =>
    simp only [Registers, show s.seq.pc = _ from hat] at hreg
    exact .sendSample (fun _ => ⟨rfl, by simp +contextual [Registers, hreg]⟩) fun _ => h
  | txHi =>
    simp only [Registers, show s.seq.pc = _ from hat] at hreg
    refine .sendSample (fun _ => ?_) fun _ => h
    cases hts : s.cfg.tsDev <;> exact ⟨rfl, by simp +contextual [Registers, hreg, hts]⟩
  | txTs0 | txTs1 | txTs2 | txTs3 =>
    simp only [Registers, show s.seq.pc = _ from hat] at hreg
    exact .sendStamp (fun _ => ⟨rfl, by simp +contextual [Registers, hreg]⟩) fun _ => h
  | resetPor =>
    refine .done ?_
    cases s.started <;> exact ⟨rfl, by simp [Registers]⟩
  | resetWarm =>
    obtain ⟨-, -, masked, -⟩ := hreg
    exact .ite (fun _ => .done ⟨rfl, by simpa [Registers] using masked⟩) fun _ => .hold h
  | _ => cases hi

/-- Settles O53: only SEQ's instructions write SEQ's registers, and each keeps what holds where it is fetched. -/
theorem stepKeepsSeqInv : Obligations.StepKeepsSeqInv := by
  intro s t hs h
  refine step_keeps (P := SeqInv) (fun _ _ h => { h with }) (fun _ h => { h with }) ?_ hs h
  intro i s _ hat hs t ht
  rw [seqInv_iff] at hs ⊢
  have hkept (hc : t.cfg = s.cfg) (hq : t.seq = s.seq) : listedPc t.seq.pc = true ∧ Registers t.cfg t.seq := by
    rwa [hc, hq]
  cases hi : i.agent with
  | seq => exact exec_seqInv_seq hi hat hs t ht
  | adc =>
    obtain ⟨hc, hq, -⟩ := exec_frame_adc hi s t ht
    exact hkept hc hq
  | sync =>
    obtain ⟨hc, hq, -⟩ := exec_frame_sync hi s t ht
    exact hkept hc hq
  | link =>
    obtain ⟨hc, hq, -⟩ := exec_frame_linkHost (.inl hi) s t ht
    exact hkept hc hq
  | host =>
    obtain ⟨hc, hq, -⟩ := exec_frame_linkHost (.inr hi) s t ht
    exact hkept hc hq
  | tmr => exact absurd hi (agent_ne_tmr i)

end Sys2Proof.Machine
end

section
/-! Proofs of the statements about SYNC's buffers (R66, R67, R71 to R73, R232, R234, R240, R243) and about the link
(R64, R65, R219, R302). -/

namespace Sys2Proof.Machine

/-! The operations on the buffers (R231 to R238). -/

theorem length_histPush {ys : List (Option U16)} (v : U16) (h : 0 < ys.length) :
    (histPush ys v).length = ys.length := by
  simp only [histPush, List.length_append, List.length_drop, List.length_singleton]
  omega

theorem length_xShift {xs : List Rat} (d : Rat) (h : 0 < xs.length) : (xShift xs d).length = xs.length := by
  simp only [xShift, List.length_append, List.length_map, List.length_drop, List.length_singleton]
  omega

/-- The newest x is 0 after a shift (R233). -/
theorem xShift_newest (xs : List Rat) (d : Rat) : (xShift xs d)[xs.length - 1]? = some 0 := by
  rw [xShift, List.getElem?_append_right (by simp)]
  simp

theorem xUpdate_timed {c : Config} (h : c.tsHost = true ∧ c.xunit = .time) (xs : List Rat) (d : Rat) :
    xUpdate c xs d = xShift xs d := by
  simp [xUpdate, h]

theorem xUpdate_fixed {c : Config} (h : ¬ (c.tsHost = true ∧ c.xunit = .time)) (xs : List Rat) (d : Rat) :
    xUpdate c xs d = xs :=
  if_neg (by simpa using h)

theorem length_xUpdate (c : Config) {xs : List Rat} (d : Rat) (h : 0 < xs.length) :
    (xUpdate c xs d).length = xs.length := by
  by_cases ht : c.tsHost = true ∧ c.xunit = .time
  · rw [xUpdate_timed ht, length_xShift d h]
  · rw [xUpdate_fixed ht]

theorem xNewest_timed {c : Config} (h : c.tsHost = true ∧ c.xunit = .time) : xNewest c = 0 := by
  simp [xNewest, h]

/-- The newest x of a session's start is the one every record shows (R234, R236). -/
theorem xStart_newest {c : Config} (h : 0 < c.histN) : xStart c (c.histN - 1) = xNewest c := by
  have hcast : ((c.histN - 1 : Nat) : Rat) = (c.histN : Rat) - 1 := by
    rw [Nat.cast_sub h, Nat.cast_one]
  unfold xStart xNewest
  rw [hcast]
  split <;> simp_all

theorem rateEstimate_sentinels (n : Nat) : rateEstimate (List.replicate n none) = none := by
  have h : rateEntries (List.replicate n none) = [] := by simp [rateEntries]
  simp [rateEstimate, h]

/-- The last `n` samples of the output, after as many sentinels as it is short of (R240). -/
def newestSamples (n : Nat) (out : List OutRec) : List (Option U16) :=
  (List.replicate n none ++ out.map (fun (o : OutRec) => some o.sample)).drop out.length

/-- Pushing a record's sample keeps the window on the newest samples (R231, R240). -/
theorem histPush_newestSamples {n : Nat} (hn : 0 < n) (out : List OutRec) (o : OutRec) :
    histPush (newestSamples n out) o.sample = newestSamples n (out ++ [o]) := by
  have hlen : out.length + 1 ≤ (List.replicate n none ++ out.map (fun (o : OutRec) => some o.sample)).length := by
    simp
    omega
  simp only [histPush, newestSamples, List.drop_drop, List.map_append, List.length_append, List.length_singleton,
    ← List.append_assoc]
  rw [List.drop_append_of_le_length hlen]
  rfl

/-! What SYNC satisfies where it stands, and what its buffers hold. -/

/-- The clauses of `SyncInv` about SYNC's state and the accumulators. -/
def Framing (c : Config) (y : Sync) : Prop :=
  y.st.toNat ≤ 9 ∧
  (3 ≤ y.st.toNat → y.st.toNat ≤ 8 → y.accS.isSome = true) ∧
  (5 ≤ y.st.toNat → y.st.toNat ≤ 8 → c.tsHost = true → y.accT.isSome = true) ∧
  (4 ≤ y.st.toNat → y.st.toNat ≤ 7 → c.tsHost = true)

/-- The clauses of `SyncInv` about the History Buffer, the Rate Estimator and the output. -/
structure Buffers (c : Config) (y : Sync) : Prop where
  sizeY   : y.histY.length = c.histN
  sizeX   : y.histX.length = c.histN
  sizeR   : y.rbuf.length = c.rateM
  cursor  : y.rcur < c.rateM
  fixedX  : ¬ (c.tsHost = true ∧ c.xunit = .time) → y.histX = (List.range c.histN).map (xStart c)
  newestX : y.histX[c.histN - 1]? = some (xNewest c)
  records : ∀ o ∈ y.out, o.x = xNewest c
  rated   : y.rate = rateEstimate y.rbuf
  window  : y.histY = newestSamples c.histN y.out

theorem syncInv_iff (s : State) : SyncInv s ↔ Framing s.cfg s.sync ∧ Buffers s.cfg s.sync := by
  constructor
  · rintro ⟨listed, sample, stamp, tsMode, sizeY, sizeX, sizeR, cursor, fixedX, newestX, records, rated, window⟩
    exact ⟨⟨listed, sample, stamp, tsMode⟩, sizeY, sizeX, sizeR, cursor, fixedX, newestX, records, rated, window⟩
  · rintro ⟨⟨listed, sample, stamp, tsMode⟩, sizeY, sizeX, sizeR, cursor, fixedX, newestX, records, rated, window⟩
    exact ⟨listed, sample, stamp, tsMode, sizeY, sizeX, sizeR, cursor, fixedX, newestX, records, rated, window⟩

/-- There is a newest x, so the History Buffer has an entry. -/
theorem Buffers.histN_pos {c : Config} {y : Sync} (h : Buffers c y) : 0 < c.histN := by
  obtain ⟨hlt, -⟩ := List.getElem?_eq_some_iff.1 h.newestX
  have := h.sizeX
  omega

theorem Buffers.rateM_pos {c : Config} {y : Sync} (h : Buffers c y) : 0 < c.rateM := Nat.zero_lt_of_lt h.cursor

/-- The buffers of a session's start (R302). -/
theorem sessionStart_buffers {c : Config} (hn : 0 < c.histN) (hm : 0 < c.rateM) : Buffers c (Sync.sessionStart c) where
  sizeY := List.length_replicate
  sizeX := by simp [Sync.sessionStart]
  sizeR := List.length_replicate
  cursor := hm
  fixedX _ := rfl
  newestX := by simp [Sync.sessionStart, hn, xStart_newest hn]
  records := nofun
  rated := (rateEstimate_sentinels c.rateM).symm
  window := by simp [Sync.sessionStart, newestSamples]

theorem Buffers.newest_xUpdate {c : Config} {y : Sync} (h : Buffers c y) (d : Rat) :
    (xUpdate c y.histX d)[c.histN - 1]? = some (xNewest c) := by
  by_cases ht : c.tsHost = true ∧ c.xunit = .time
  · rw [xUpdate_timed ht, xNewest_timed ht, ← h.sizeX]
    exact xShift_newest y.histX d
  · rw [xUpdate_fixed ht]
    exact h.newestX

/-- EMIT keeps the buffers right (R230 to R240). -/
theorem Buffers.emitted {c : Config} {y : Sync} (h : Buffers c y) (v : U16) (d : Rat) :
    Buffers c (emitted c y v d) where
  sizeY := (length_histPush v (h.sizeY ▸ h.histN_pos)).trans h.sizeY
  sizeX := (length_xUpdate c d (h.sizeX ▸ h.histN_pos)).trans h.sizeX
  sizeR := List.length_set.trans h.sizeR
  cursor := Nat.mod_lt _ h.rateM_pos
  fixedX hf := (xUpdate_fixed hf y.histX d).trans (h.fixedX hf)
  newestX := h.newest_xUpdate d
  records o ho := by
    obtain ho | rfl := List.mem_append.1 ho |>.imp_right List.mem_singleton.1
    · exact h.records o ho
    · simp [List.getD_eq_getElem?_getD, h.newest_xUpdate d]
  rated := rfl
  window := by
    show histPush y.histY v = _
    rw [h.window]
    exact histPush_newestSamples h.histN_pos y.out (.mk v _ _)

/-! What the instructions make of them. -/

/-- SYNC's instructions, where they are fetched. -/
theorem exec_syncInv_sync {i : Instr} (hi : i.agent = .sync) {s : State} (hat : At i s)
    (h : Framing s.cfg s.sync ∧ Buffers s.cfg s.sync) :
    Ensures (exec i s) fun t => Framing t.cfg t.sync ∧ Buffers t.cfg t.sync := by
  obtain ⟨hf, hb⟩ := id h
  cases i with
  | seek1Sync | seek1Discard b | seek2Sync | rs0Lo b => exact .done ⟨by simp [Framing], { hb with }⟩
  | seek2Miss b =>
    refine .done ⟨?_, { hb with }⟩
    by_cases hm : b = marker <;> simp [Framing, hm]
  | rs1Hi b =>
    have hst : s.sync.st = 3 := hat.trans (extractLsb'_tokenOf 3 b)
    simp only [Framing, hst] at hf
    refine .done ⟨?_, { hb with }⟩
    cases hts : s.cfg.tsHost <;> simp [Framing, hf, hts]
  | rt0B0 b | rt1B1 b | rt2B2 b | rt3B3 b =>
    have hst := hat.trans (extractLsb'_tokenOf _ b)
    simp only [Framing, hst] at hf
    exact .done ⟨by simp [Framing, hf], { hb with }⟩
  | emit =>
    refine .emit (fun v _ => ?_) fun _ => h
    simp only [State.withSync_cfg, State.afterInterval_cfg, State.withSync_sync]
    refine ⟨?_, hb.emitted v _⟩
    cases hstop : s.sync.stop <;> simp [Framing, emitted, hstop]
  | eosEnd st => exact .ite (fun _ => .done ⟨by simp [Framing], { hb with }⟩) fun _ => .hold h
  | ended => exact .hold h
  | _ => cases hi

/-- LINK and HOST write the receive queue and the marks `eos` and `stop`, or start a session. -/
theorem exec_syncInv_linkHost {i : Instr} (hi : i.agent = .link ∨ i.agent = .host) {s : State}
    (h : Framing s.cfg s.sync ∧ Buffers s.cfg s.sync) :
    Ensures (exec i s) fun t => Framing t.cfg t.sync ∧ Buffers t.cfg t.sync := by
  obtain ⟨hf, hb⟩ := id h
  cases i with
  | linkDeliver => exact .linkDeliver (fun _ => ⟨hf, { hb with }⟩) h
  | linkDrop | linkCorrupt | linkInsert | linkClose | hostStop =>
    exact .ite (fun _ => .hold h) fun _ => .done ⟨hf, { hb with }⟩
  | sessionStart =>
    exact .ite (fun _ => .done ⟨by simp [Framing, Sync.sessionStart], sessionStart_buffers hb.histN_pos hb.rateM_pos⟩)
      fun _ => .hold h
  | _ => cases hi <;> contradiction

/-- Settles O54: the device writes nothing of SYNC's; the instructions of SYNC, LINK and HOST keep what holds. -/
theorem stepKeepsSyncInv : Obligations.StepKeepsSyncInv := by
  intro s t hs h
  refine step_keeps (P := SyncInv) (fun _ _ h => { h with }) (fun _ h => { h with }) ?_ hs h
  intro i s _ hat hs t ht
  rw [syncInv_iff] at hs ⊢
  have hkept (hc : t.cfg = s.cfg) (hy : t.sync = s.sync) : Framing t.cfg t.sync ∧ Buffers t.cfg t.sync := by
    rwa [hc, hy]
  cases hi : i.agent with
  | seq =>
    obtain ⟨hc, hy⟩ := exec_frame_seq hi s t ht
    exact hkept hc hy
  | adc =>
    obtain ⟨hc, -, hy, -⟩ := exec_frame_adc hi s t ht
    exact hkept hc hy
  | sync => exact exec_syncInv_sync hi hat hs t ht
  | link => exact exec_syncInv_linkHost (.inl hi) hs t ht
  | host => exact exec_syncInv_linkHost (.inr hi) hs t ht
  | tmr => exact absurd hi (agent_ne_tmr i)

/-! The link (R64, R65, R219, R302). -/

/-- A byte sent is the last in flight and the last of what was sent. -/
theorem LinkInv.send {s t : State} (h : LinkInv s) (b : Byte) (hstarted : t.started = true)
    (heos : t.sync.eos = s.sync.eos)
    (hlink : t.link = { s.link with q := s.link.q ++ [b], sent := s.link.sent ++ [b] }) : LinkInv t where
  started := hstarted
  suffix := by
    obtain ⟨before, hsent⟩ := h.suffix
    rw [hlink]
    exact ⟨before, by rw [← List.append_assoc, hsent]⟩
  closing := by
    rw [heos, hlink]
    exact h.closing

/-- What has left the queue was the oldest in flight. -/
theorem LinkInv.unqueue {s t : State} (h : LinkInv s) (hstarted : t.started = true) (heos : t.sync.eos = s.sync.eos)
    (hlink : t.link = { s.link with q := s.link.q.tail }) : LinkInv t where
  started := hstarted
  suffix := by
    rw [hlink]
    exact (List.tail_suffix _).trans h.suffix
  closing := by
    rw [heos, hlink]
    exact h.closing

/-- SEQ sends, LINK takes from the queue and closes, SESSION_START opens; nothing else touches the link. -/
theorem exec_linkInv (i : Instr) {s : State} (h : LinkInv s) : Ensures (exec i s) LinkInv := by
  cases i with
  | initClk | initPin | initPresc | initPwr | initSettle | initMode | initSmp | initSeqlen
  | convSel | convClr | convRead | txEnd | delay
  | seek1Sync | seek1Discard b | seek2Sync | seek2Miss b | rs0Lo b | rs1Hi b
  | rt0B0 b | rt1B1 b | rt2B2 b | rt3B3 b => exact .done { h with }
  | initDisChk | initDisWait | initCalWait | initRdyWait | convWait =>
    exact .ite (fun _ => .done { h with }) fun _ => .done { h with }
  | initCal | initEn | convStart => exact .ite (fun _ => .raise { h with }) fun _ => .done { h with }
  | txSync0 =>
    refine .done ?_
    cases s.cfg.tsDev <;> exact h.send marker h.started rfl rfl
  | txSync1 => exact .done (h.send marker h.started rfl rfl)
  | txLo | txHi => exact .sendSample (fun b => h.send b h.started rfl rfl) fun _ => { h with }
  | txTs0 | txTs1 | txTs2 | txTs3 => exact .sendStamp (fun b => h.send b h.started rfl rfl) fun _ => { h with }
  | emit =>
    obtain ⟨hstarted, hsuffix, hclosing⟩ := id h
    refine .emit (fun v _ => ?_) fun _ => { h with }
    constructor <;> simpa [emitted]
  | ended => exact .hold { h with }
  | eosEnd st => exact .ite (fun _ => .done { h with }) fun _ => .hold { h with }
  | adcDisDone | adcCalDone | adcReady | adcConvDone | resetWarm =>
    exact .ite (fun _ => .done { h with }) fun _ => .hold { h with }
  | linkDeliver => exact .linkDeliver (fun _ => h.unqueue h.started rfl rfl) { h with }
  | linkDrop | linkCorrupt => exact .ite (fun _ => .hold { h with }) fun _ => .done (h.unqueue h.started rfl rfl)
  | linkInsert | hostStop => exact .ite (fun _ => .hold { h with }) fun _ => .done { h with }
  | linkClose => exact .ite (fun _ => .hold { h with }) fun _ => .done ⟨h.started, h.suffix, rfl⟩
  | sessionStart => exact .ite (fun _ => .done ⟨h.started, h.suffix, rfl⟩) fun _ => .hold { h with }
  | resetPor =>
    refine .done ?_
    simp only [h.started, if_true]
    exact ⟨rfl, h.suffix, h.closing⟩

/-- Settles O55: a byte sent is appended to both lists, and what leaves the queue leaves it at the head. -/
theorem stepKeepsLinkInv : Obligations.StepKeepsLinkInv := fun _ _ hs h =>
  step_keeps (fun _ _ h => { h with }) (fun _ h => { h with }) (fun i _ _ _ h => exec_linkInv i h) hs h

end Sys2Proof.Machine
end

section
/-! Proof of the statement about what each agent writes (R95, R165, R277): what LINK and HOST write of SYNC's state and
of the link (R215 to R220, R302). The device and the agents' own frames are `exec_frame_seq`, `exec_frame_adc`,
`exec_frame_sync` and `exec_frame_linkHost`. -/

namespace Sys2Proof.Machine

/-- A byte leaves the link when it is taken from the queue, not from the log of what was sent. -/
theorem exec_frame_sent {i : Instr} (hi : i.agent = .link ∨ i.agent = .host) (s : State) :
    Ensures (exec i s) fun t => t.link.sent = s.link.sent := by
  cases i with
  | linkDeliver => exact .linkDeliver (fun _ => rfl) rfl
  | linkDrop | linkCorrupt | linkInsert | linkClose | hostStop => exact .ite (fun _ => .hold rfl) fun _ => .done rfl
  | sessionStart => exact .ite (fun _ => .done rfl) fun _ => .hold rfl
  | _ => cases hi <;> contradiction

/-- LINK hands over, loses, damages or adds a byte: of SYNC's state that is the receive queue, and the link stays open
or closed as it was. -/
theorem exec_frame_linkByte {i : Instr} (hi : i.agent = .link) (hclose : i ≠ .linkClose) (s : State) :
    Ensures (exec i s) fun t => t.sync = { s.sync with rxq := t.sync.rxq } ∧ t.link.closed = s.link.closed := by
  cases i with
  | linkDeliver => exact .linkDeliver (fun _ => ⟨rfl, rfl⟩) ⟨rfl, rfl⟩
  | linkDrop | linkCorrupt | linkInsert => exact .ite (fun _ => .hold ⟨rfl, rfl⟩) fun _ => .done ⟨rfl, rfl⟩
  | linkClose => exact absurd rfl hclose
  | _ => cases hi

/-- Closing the link marks the end of the stream and leaves the bytes in flight (R219). -/
theorem execLinkClose_frame (s : State) :
    Ensures (execLinkClose s) fun t => t.sync = { s.sync with eos := t.sync.eos } ∧ t.link.q = s.link.q :=
  .ite (fun _ => .hold ⟨rfl, rfl⟩) fun _ => .done ⟨rfl, rfl⟩

/-- The stop request is one mark of SYNC's state (R220). -/
theorem execHostStop_frame (s : State) :
    Ensures (execHostStop s) fun t => t.sync = { s.sync with stop := t.sync.stop } ∧ t.link = s.link :=
  .ite (fun _ => .hold ⟨rfl, rfl⟩) fun _ => .done ⟨rfl, rfl⟩

/-- A session starts with the link open and with the bytes still in flight (R302). -/
theorem execSessionStart_frame (s : State) :
    Ensures (execSessionStart s) fun t => t.link = { s.link with closed := t.link.closed } :=
  .ite (fun _ => .done rfl) fun _ => .hold rfl

/-- Settles O43: the frame of each agent, and of LINK and HOST, which write SYNC's state by their rules, the frame of
each of those rules. -/
theorem agentsKeepToTheirState : Obligations.AgentsKeepToTheirState := by
  intro i s t ht
  obtain ⟨hcfg, -⟩ := exec_device i s t ht
  refine ⟨hcfg, fun hi => (exec_frame_seq hi s t ht).2, fun hi => ?adc, fun hi => (exec_frame_sync hi s t ht).2,
    fun hi => ?linkHost, fun hi hclose => exec_frame_linkByte hi hclose s t ht, ?linkClose, ?hostStop, ?sessionStart⟩
  case adc =>
    obtain ⟨-, hseq, hsync, hlink, hstarted⟩ := exec_frame_adc hi s t ht
    exact ⟨hsync, hseq, hlink, hstarted⟩
  case linkHost =>
    obtain ⟨-, hseq, hadc, hstarted⟩ := exec_frame_linkHost hi s t ht
    exact ⟨hseq, hadc, exec_frame_sent hi s t ht, hstarted⟩
  case linkClose =>
    rintro rfl
    exact execLinkClose_frame s t ht
  case hostStop =>
    rintro rfl
    exact execHostStop_frame s t ht
  case sessionStart =>
    rintro rfl
    exact execSessionStart_frame s t ht

end Sys2Proof.Machine
end

section
/-! Proofs of the statements about the encoding (R105, R107 to R111). The token table is read once, by a token's state
and byte (`decodeTok_tokenOf`). -/

namespace Sys2Proof.Machine

/-! Tokens (R107, R108). -/

/-- The byte of a token is its lower eight bits (R107). -/
@[simp] theorem extractLsb'_tokenOf_byte (st : BitVec 4) (b : Byte) : (tokenOf st b).extractLsb' 0 8 = b :=
  BitVec.extractLsb'_append_eq_right

/-- Every 12-bit word is the token of its state bits and its byte. -/
theorem tokenOf_extractLsb' (t : BitVec 12) : tokenOf (t.extractLsb' 8 4) (t.extractLsb' 0 8) = t := by
  rw [tokenOf, BitVec.extractLsb'_append_extractLsb'_eq_extractLsb' (by decide), BitVec.extractLsb'_eq_self]

theorem tokenOf_eq_iff {st : BitVec 4} {b : Byte} {t : BitVec 12} :
    tokenOf st b = t ↔ st = t.extractLsb' 8 4 ∧ b = t.extractLsb' 0 8 := by
  constructor
  · rintro rfl
    simp
  · rintro ⟨rfl, rfl⟩
    exact tokenOf_extractLsb' t

/-- The test of a row whose mask covers the whole token. -/
theorem tokenOf_and_wordMask (st : BitVec 4) (b : Byte) (m : BitVec 12) :
    (tokenOf st b &&& 0xFFF == m) = decide (st = m.extractLsb' 8 4 ∧ b = m.extractLsb' 0 8) := by
  have hmask : tokenOf st b &&& 0xFFF = tokenOf st b := BitVec.and_allOnes
  rw [hmask, beq_eq_decide]
  exact decide_eq_decide.2 tokenOf_eq_iff

/-- The test of a row whose mask covers the state bits alone. -/
theorem tokenOf_and_stateMask (st : BitVec 4) (b : Byte) {m : BitVec 12} (hm : m.extractLsb' 0 8 = 0) :
    (tokenOf st b &&& 0xF00 == m) = decide (st = m.extractLsb' 8 4) := by
  have hmask : tokenOf st b &&& 0xF00 = tokenOf (st &&& BitVec.allOnes 4) (b &&& 0#8) :=
    BitVec.and_append (x₁ := st) (x₂ := .allOnes 4) (y₁ := b) (y₂ := 0#8)
  rw [hmask, BitVec.and_allOnes, BitVec.and_zero, beq_eq_decide]
  refine decide_eq_decide.2 ?_
  rw [tokenOf_eq_iff, hm]
  exact and_iff_left rfl

/-- The token table, read by a token's state and byte: the rows of state `st` are tried in their order, and no row is of
a state above 7. -/
theorem decodeTok_tokenOf (st : BitVec 4) (b : Byte) : decodeTok (tokenOf st b) =
    if st = 0 then .ok (if b = 0xAA then .seek1Sync else .seek1Discard b)
    else if st = 1 then .ok (if b = 0xAA then .seek2Sync else .seek2Miss b)
    else if st = 2 then .ok (.rs0Lo b)
    else if st = 3 then .ok (.rs1Hi b)
    else if st = 4 then .ok (.rt0B0 b)
    else if st = 5 then .ok (.rt1B1 b)
    else if st = 6 then .ok (.rt2B2 b)
    else if st = 7 then .ok (.rt3B3 b)
    else .error (.noTokenState (tokenOf st b)) := by
  simp (disch := decide) only [decodeTok, tokTable, List.find?_cons, List.find?_nil, tokenOf_and_wordMask,
    tokenOf_and_stateMask, extractLsb'_tokenOf_byte]
  split_ifs <;> simp_all

/-- What a token decodes to is well formed and has exactly that token. -/
theorem encode_eq_tok_of_decodeTok {t : BitVec 12} {i : Instr} (h : decodeTok t = .ok i) :
    WellFormed i = true ∧ encode i = .tok t := by
  obtain ⟨st, b, rfl⟩ : ∃ st b, tokenOf st b = t := ⟨_, _, tokenOf_extractLsb' t⟩
  rw [decodeTok_tokenOf] at h
  split_ifs at h with h0 hb h1 hb <;> cases h <;> subst st
  · exact ⟨rfl, by rw [hb]; rfl⟩
  · exact ⟨bne_iff_ne.2 hb, rfl⟩
  · exact ⟨rfl, by rw [hb]; rfl⟩
  · exact ⟨bne_iff_ne.2 hb, rfl⟩
  all_goals exact ⟨rfl, rfl⟩

/-- A token decodes exactly if it is of a state 0 to 7. -/
theorem decodeTok_ok_iff (t : BitVec 12) : (∃ i, decodeTok t = .ok i) ↔ t.toNat < 0x800 := by
  obtain ⟨st, b, rfl⟩ : ∃ st b, tokenOf st b = t := ⟨_, _, tokenOf_extractLsb' t⟩
  have hst : (tokenOf st b).toNat / 256 % 16 = st.toNat := by
    rw [← congrArg BitVec.toNat (extractLsb'_tokenOf st b), BitVec.extractLsb'_toNat, Nat.shiftRight_eq_div_pow]
  have hlt : (tokenOf st b).toNat < 4096 := (tokenOf st b).isLt
  rw [decodeTok_tokenOf]
  split_ifs <;> simp <;> bv_omega

/-! The other formats (R105, R109, R110). -/

/-- What an event code decodes to stands in the table beside it (R110). -/
theorem decodeEvt_mem {c : BitVec 8} {i : Instr} (h : decodeEvt c = .ok i) : (c, i) ∈ evtTable := by
  unfold decodeEvt at h
  split at h
  · next r hr =>
    cases h
    obtain rfl : r.1 = c := by simpa using List.find?_some hr
    exact List.mem_of_find?_eq_some hr
  · cases h

/-- Every row of the event table re-encodes to its code (R110). -/
theorem encode_of_decodeEvt {c : BitVec 8} {i : Instr} (h : decodeEvt c = .ok i) : encode i = .evt c :=
  have hrows : ∀ r ∈ evtTable, encode r.2 = .evt r.1 := by decide
  hrows _ (decodeEvt_mem h)

/-- Only two rows of the token table constrain an operand. -/
theorem wellFormed_of_encode_ne_tok {i : Instr} (h : ∀ t, encode i ≠ .tok t) : WellFormed i = true := by
  cases i with
  | seek1Discard b | seek2Miss b => exact absurd rfl (h _)
  | _ => rfl

/-- Decoding is the inverse of encoding, on well-formed instructions. -/
theorem decode_encode {i : Instr} (h : WellFormed i = true) : decode (encode i) = .ok i := by
  cases i with
  | seek1Discard b => exact (decodeTok_tokenOf 0 b).trans (congrArg Except.ok (if_neg (bne_iff_ne.1 h)))
  | seek2Miss b => exact (decodeTok_tokenOf 1 b).trans (congrArg Except.ok (if_neg (bne_iff_ne.1 h)))
  | rs0Lo b => exact decodeTok_tokenOf 2 b
  | rs1Hi b => exact decodeTok_tokenOf 3 b
  | rt0B0 b => exact decodeTok_tokenOf 4 b
  | rt1B1 b => exact decodeTok_tokenOf 5 b
  | rt2B2 b => exact decodeTok_tokenOf 6 b
  | rt3B3 b => exact decodeTok_tokenOf 7 b
  | eosEnd st =>
    have hrow : ∀ st : BitVec 3, decodeSyncInt (0#1 ++ st) = .ok (.eosEnd st) := by decide
    exact hrow st
  | _ => rfl

/-- Encoding is the inverse of decoding, and what is decoded is well formed. -/
theorem encode_of_decode {c : Code} {i : Instr} (h : decode c = .ok i) : WellFormed i = true ∧ encode i = c := by
  cases c with
  | tok t => exact encode_eq_tok_of_decodeTok h
  | seq c =>
    have he := encode_of_decodeSeq h
    exact ⟨wellFormed_of_encode_ne_tok (by simp [he]), he⟩
  | syncInt c =>
    have he := encode_of_decodeSyncInt h
    exact ⟨wellFormed_of_encode_ne_tok (by simp [he]), he⟩
  | evt c =>
    have he := encode_of_decodeEvt h
    exact ⟨wellFormed_of_encode_ne_tok (by simp [he]), he⟩

/-! Which code words are instructions (R111). -/

theorem decodeSeq_ok_iff (c : BitVec 8) : (∃ i, decodeSeq c = .ok i) ↔ ∃ r ∈ seqTable, r.1 = c := by
  constructor
  · rintro ⟨i, h⟩
    exact ⟨_, decodeSeq_mem h, rfl⟩
  · rintro ⟨r, hr, rfl⟩
    have hrows : ∀ r ∈ seqTable, decodeSeq r.1 = .ok r.2 := by decide
    exact ⟨_, hrows r hr⟩

theorem decodeEvt_ok_iff (c : BitVec 8) : (∃ i, decodeEvt c = .ok i) ↔ ∃ r ∈ evtTable, r.1 = c := by
  constructor
  · rintro ⟨i, h⟩
    exact ⟨_, decodeEvt_mem h, rfl⟩
  · rintro ⟨r, hr, rfl⟩
    have hrows : ∀ r ∈ evtTable, decodeEvt r.1 = .ok r.2 := by decide
    exact ⟨_, hrows r hr⟩

theorem decodeSyncInt_ok_iff (c : BitVec 4) : (∃ i, decodeSyncInt c = .ok i) ↔ c.toNat ≤ 9 := by
  have hcodes : ∀ c : BitVec 4, (decodeSyncInt c).isOk = true ↔ c.toNat ≤ 9 := by decide
  rw [← hcodes c]
  cases decodeSyncInt c <;> simp [Except.isOk, Except.toBool]

/-- Settles O1: `decode_encode` one way, `encode_of_decode` the other. -/
theorem decodeEncodeRoundTrip : Obligations.DecodeEncodeRoundTrip :=
  ⟨fun _ => decode_encode, fun _ _ => encode_of_decode⟩

/-- Settles O2: the token table read at each of the states 0 to 7. -/
theorem tokenRowForEveryStateAndByte : Obligations.TokenRowForEveryStateAndByte := fun b =>
  ⟨decodeTok_tokenOf 0 b, decodeTok_tokenOf 1 b, decodeTok_tokenOf 2 b, decodeTok_tokenOf 3 b, decodeTok_tokenOf 4 b,
    decodeTok_tokenOf 5 b, decodeTok_tokenOf 6 b, decodeTok_tokenOf 7 b⟩

/-- Settles O3: the codes of the two tables are the listed ranges. -/
theorem unassignedCodesAreRejected : Obligations.UnassignedCodesAreRejected := by
  refine ⟨fun c => (decodeSeq_ok_iff c).trans ?_, decodeSyncInt_ok_iff, decodeTok_ok_iff,
    fun c => (decodeEvt_ok_iff c).trans ?_⟩
  · simp only [seqTable, List.cons_append, List.nil_append, List.exists_mem_cons_iff, List.not_mem_nil,
      false_and, exists_false, or_false]
    bv_omega
  · simp only [evtTable, List.exists_mem_cons_iff, List.not_mem_nil, false_and, exists_false, or_false]
    bv_omega

/-- Settles O4: each of the ten words is the code word of its instruction. -/
theorem specWordsDecode : Obligations.SpecWordsDecode :=
  ⟨decode_encode (i := .initCal) rfl, decode_encode (i := .convStart) rfl, decode_encode (i := .txHi) rfl,
    decode_encode (i := .seek1Sync) rfl, decode_encode (i := .rs1Hi 0x05) rfl, decode_encode (i := .emit) rfl,
    decode_encode (i := .eosEnd 3) rfl, decode_encode (i := .adcConvDone) rfl, decode_encode (i := .linkCorrupt) rfl,
    decode_encode (i := .sessionStart) rfl⟩

end Sys2Proof.Machine
end

section
/-! Proof of the statement about the order of the sequencer's states (R105). -/

namespace Sys2Proof.Machine

/-- The successor of SEQ's state where no fault is raised (R105). -/
def successor (s : State) : Nat :=
  if s.seq.pc = 0x04 then (if s.adc.enabled = true ∨ s.adc.enReq = true then 0x05 else 0x06)
  else if s.seq.pc = 0x05 then (if s.adc.enabled = false ∧ s.adc.disReq = false then 0x06 else 0x05)
  else if s.seq.pc = 0x09 then (if s.adc.cal = false then 0x0A else 0x09)
  else if s.seq.pc = 0x0E then (if s.adc.rdy = true then 0x10 else 0x0E)
  else if s.seq.pc = 0x13 then (if s.adc.eoc = true then 0x14 else 0x13)
  else if s.seq.pc = 0x14 then 0x20
  else if s.seq.pc = 0x23 then (if s.cfg.tsDev = true then 0x24 else 0x28)
  else if s.seq.pc = 0x28 then 0x30
  else if s.seq.pc = 0x30 then 0x10
  else s.seq.pc.toNat + 1

/-- Where the fault mark is as it was, no fault was raised. -/
theorem Ensures.raise_of_faults_eq {f : Fault} {s : State} {P : State → Prop} :
    Ensures (Machine.raise f s) fun t => t.faults = s.faults → P t :=
  .raise fun h => by simp at h

theorem calDone_iff (a : Adc) : a.calDone = true ↔ a.cal = false := by
  simp [Adc.calDone]

theorem isReady_iff (a : Adc) : a.isReady = true ↔ a.rdy = true := .rfl

theorem convDone_iff (a : Adc) : a.convDone = true ↔ a.eoc = true := .rfl

/-- The instruction fetched at SEQ's state goes on to that state's successor, or raises a fault. -/
theorem exec_successor {i : Instr} {s : State} (h : encode i = .seq s.seq.pc) :
    Ensures (exec i s) fun t => t.faults = s.faults → t.seq.pc.toNat = successor s := by
  cases i with
  | initClk | initPin | initPresc | initPwr | initSettle | initMode | initSmp | initSeqlen | convSel | convClr
  | convRead | txSync0 | txSync1 | txEnd | delay =>
    exact .done fun _ => by simp [successor, ← Code.seq.inj h]
  | initDisChk | initDisWait | initCalWait | initRdyWait | convWait =>
    refine .ite (fun hu => .done fun _ => ?_) fun hu => .done fun _ => ?_
    all_goals
      simp only [inUse_iff, disableDone_iff, calDone_iff, isReady_iff, convDone_iff] at hu
      simp [successor, ← Code.seq.inj h, hu]
  | initCal | initEn | convStart =>
    exact .ite (fun _ => .raise_of_faults_eq) fun _ => .done fun _ => by simp [successor, ← Code.seq.inj h]
  | txLo =>
    exact .sendSample (fun _ _ => by simp [successor, ← Code.seq.inj h]) fun _ hf => by simp at hf
  | txHi =>
    refine .sendSample (fun _ _ => ?_) fun _ hf => by simp at hf
    cases hts : s.cfg.tsDev <;> simp [successor, ← Code.seq.inj h, hts]
  | txTs0 | txTs1 | txTs2 | txTs3 =>
    exact .sendStamp (fun _ _ => by simp [successor, ← Code.seq.inj h]) fun _ hf => by simp at hf
  | _ => cases h

/-- Settles O22: after the first power-on SEQ's step is the instruction fetched at its state. -/
theorem sequencerSuccessors : Obligations.SequencerSuccessors := by
  intro s t hp hs h hf
  obtain ⟨-, ⟨-, hs', -⟩ | ⟨-, i, hd, he⟩⟩ := step_next h
  · simp [hs] at hs'
  · rw [hp] at hd
    exact exec_successor (s := s.afterPick) (encode_of_decodeSeq hd) t he hf

end Sys2Proof.Machine
end

section
/-! Proofs of the statements about the single steps of the sampling driver: the initialisation (R131 to R144), the
conversion (R150 to R154) and the converter's own steps (R160 to R163). -/

namespace Sys2Proof.Machine

/-! Polls and requests (R12, R135 to R153). -/

/-- A poll goes on where its condition holds and stays where it does not (R12). -/
theorem poll_eq {b : Bool} {q : Prop} [Decidable q] (h : b = true ↔ q) (c : BitVec 8) (s : State) :
    (if b then done (s.goto c) else done s) =
      .next { s with seq.pc := if q then c else s.seq.pc, last := .next } := by
  by_cases hq : q
  · rw [if_pos (h.2 hq), if_pos hq]
    rfl
  · rw [if_neg (mt h.1 hq), if_neg hq]
    rfl

theorem calForbidden_iff (a : Adc) : a.calForbidden = true ↔ a.enabled = true := .rfl

theorem execInitCal_ok {s : State} (h : s.adc.enabled = false) :
    execInitCal s = .next { s with adc.cal := true, seq.pc := 0x09, last := .next } :=
  if_neg (by simp [calForbidden_iff, h])

theorem execInitCal_fault {s : State} (h : s.adc.enabled = true) :
    execInitCal s = raise (.adcPrecondition 0x08) s :=
  if_pos ((calForbidden_iff _).2 h)

theorem execInitEn_ok {s : State} (hcal : s.adc.cal = false) (hen : s.adc.enabled = false) :
    execInitEn s = .next { s with adc.enReq := true, seq.pc := 0x0E, last := .next } :=
  if_neg (by simp [enableForbidden_iff, hcal, hen])

theorem execInitEn_fault {s : State} (h : s.adc.cal = true ∨ s.adc.enabled = true) :
    execInitEn s = raise (.adcPrecondition 0x0D) s :=
  if_pos ((enableForbidden_iff _).2 h)

theorem execConvStart_ok {s : State} (hen : s.adc.enabled = true) (hrdy : s.adc.rdy = true) :
    execConvStart s = .next { s with adc.start := true, seq.diagConv := true, seq.pc := 0x13, last := .next } :=
  if_neg (by simp [startForbidden_iff, hen, hrdy])

theorem execConvStart_fault {s : State} (h : s.adc.enabled = false ∨ s.adc.rdy = false) :
    execConvStart s = raise (.adcPrecondition 0x12) s :=
  if_pos ((startForbidden_iff _).2 h)

/-- Settles O10: none of the four steps tests anything. -/
theorem initClockPinPrescalerPower : Obligations.InitClockPinPrescalerPower :=
  fun _ => ⟨rfl, rfl, rfl, rfl⟩

/-- Settles O11: the test of INIT_DIS_CHK is whether the converter is in use. -/
theorem initDisableCheck : Obligations.InitDisableCheck :=
  fun s => ⟨fun h => if_pos ((inUse_iff _).2 h), fun hen hreq => if_neg (by simp [inUse_iff, hen, hreq])⟩

/-- Settles O12: the four polls by `poll_eq`; the two delays test nothing. -/
theorem pollsAndDelays : Obligations.PollsAndDelays :=
  fun s => ⟨poll_eq (disableDone_iff _) _ s, poll_eq (calDone_iff _) _ s, poll_eq (isReady_iff _) _ s,
    poll_eq (convDone_iff _) _ s, rfl, rfl⟩

/-- Settles O13: each request's test is whether it would break R61. -/
theorem converterRequests : Obligations.ConverterRequests :=
  fun _ => ⟨execInitCal_ok, execInitEn_ok, execConvStart_ok, execInitCal_fault, execInitEn_fault,
    execConvStart_fault⟩

/-- Settles O14: the write of `SMP` is read back at its own channel and nowhere else. -/
theorem initModeSamplingSequence : Obligations.InitModeSamplingSequence :=
  fun _ => ⟨rfl,
    ⟨_, rfl, fun hwf => ⟨chanRead_write_same _ _ _ hwf, fun _ hc => chanRead_write_other _ _ _ _ hc⟩⟩, rfl⟩

/-! The conversion (R150 to R154). -/

/-- Settles O16: neither step tests anything. -/
theorem convSelectAndClear : Obligations.ConvSelectAndClear :=
  fun _ => ⟨rfl, rfl⟩

/-- The mask of a resolution of at most 16 bits keeps the value modulo `2^RES` (R9, R154). -/
theorem maskSample_eq_mod {res : Nat} (h : res ≤ 16) (dr : U16) :
    maskSample res dr = BitVec.ofNat 16 (dr.toNat % 2 ^ res) := by
  have hle : 2 ^ res ≤ 2 ^ 16 := Nat.pow_le_pow_right (by decide) h
  have hmask : (resMask res).toNat = 2 ^ res - 1 := by
    rw [resMask, BitVec.toNat_ofNat]
    exact Nat.mod_eq_of_lt (by have := Nat.two_pow_pos res; omega)
  have hmod : dr.toNat % 2 ^ res < 2 ^ 16 := lt_of_lt_of_le (Nat.mod_lt _ (Nat.two_pow_pos res)) hle
  apply BitVec.eq_of_toNat_eq
  rw [maskSample, BitVec.toNat_and, hmask, Nat.and_two_pow_sub_one_eq_mod, BitVec.toNat_ofNat,
    Nat.mod_eq_of_lt hmod]

/-- Settles O17: CONV_READ writes the masked result, which is the result modulo `2^RES`. -/
theorem convReadMasksToResolution : Obligations.ConvReadMasksToResolution := by
  intro s h
  rw [← maskSample_eq_mod h]
  rfl

/-! The converter's own steps (R160 to R163). -/

/-- ADC_CONV_DONE leaves START as CONT has it (R163): a conversion was in progress. -/
theorem execAdcConvDone_ok {s : State} (hstart : s.adc.start = true) (hen : s.adc.enabled = true) :
    execAdcConvDone s = .next { s with
      adc.dr := s.analogDraw, adc.eoc := true, adc.start := s.adc.cont
      env.analog := s.env.analog.tail, env.tick := s.env.tick + 1, last := .next } := by
  have hcont : (if s.adc.cont then s.adc.start else false) = s.adc.cont := by simp [hstart]
  rw [execAdcConvDone, if_pos ((canConvert_iff _).2 ⟨hstart, hen⟩), hcont]
  rfl

/-- Settles O38: each step's test is its enabling condition. -/
theorem converterEvents : Obligations.ConverterEvents :=
  fun s => ⟨fun h => if_pos h, fun h => ⟨s.calDraw, if_pos h⟩,
    fun hreq hdis hcal hdpd hreg => if_pos ((canReady_iff _).2 ⟨hreq, hdis, hcal, hdpd, hreg⟩),
    execAdcConvDone_ok⟩

end Sys2Proof.Machine
end

section
/-! Proof of the statement about what the initialisation has established by CONV_SEL (R145), and the induction over
runs it needs. -/

namespace Sys2Proof.Machine

/-- What every step keeps holds after a run of any length (R11). -/
theorem run_keeps {P : State → Prop} (hstep : ∀ s t, P s → step s = .next t → P t) {k : Nat} {s t : State}
    (hs : P s) (h : Host.Core.run core k s = .next t) : P t := by
  induction k generalizing s with
  | zero =>
    cases h
    exact hs
  | succ k ih =>
    simp only [Host.Core.run] at h
    split at h
    · next u hu => exact ih (hstep s u hs hu) h
    · cases h
    · cases h

/-- No step writes the configuration (R7). -/
theorem step_cfg {s t : State} (h : step s = .next t) : t.cfg = s.cfg :=
  step_keeps (P := fun u => u.cfg = s.cfg) (fun _ _ h => h) (fun _ h => h)
    (fun i u _ _ hu t ht => (exec_device i u t ht).1.trans hu) rfl h

/-- At the entry point nothing has to be established yet: R61 and the ranges are all the invariant asks. -/
theorem deviceInv_of_entry {s : State} (hpc : s.seq.pc = 0x01) (hl : s.adc.legal) : DeviceInv s :=
  (deviceInv_iff s).2 ⟨hl, by simp [Established, hpc]⟩

/-- Settles O57: the device's invariant holds at the entry point, every step keeps it, and at CONV_SEL it gives the
seventeen values. -/
theorem initialisationPostState : Obligations.InitialisationPostState := by
  intro k s t hpc hl hrun hsel
  have hkept : DeviceInv t ∧ t.cfg = s.cfg :=
    run_keeps (P := fun u => DeviceInv u ∧ u.cfg = s.cfg)
      (fun u v ⟨hu, hc⟩ h => ⟨stepKeepsDeviceInv u v hu h, (step_cfg h).trans hc⟩) ⟨deviceInv_of_entry hpc hl, rfl⟩ hrun
  obtain ⟨hinv, hcfg⟩ := hkept
  have hat : t.seq.pc.toNat = 0x10 := by rw [hsel]; rfl
  rw [← hcfg]
  obtain ⟨hclk, hport⟩ := hinv.clocks (by omega)
  obtain ⟨hpin, hdig⟩ := hinv.pin (by omega)
  obtain ⟨hdpd, hreg⟩ := hinv.power (by omega)
  obtain ⟨hcont, hres⟩ := hinv.mode (by omega)
  obtain ⟨hen, hrdy⟩ := hinv.running (by omega)
  obtain ⟨hdis, hreq⟩ := hinv.calm (by omega) hen
  exact ⟨hclk, hport, hpin, hdig, hinv.presc (by omega), hdpd, hreg, hinv.calOff (by omega), hcont, hres,
    hinv.smp (by omega), hinv.seqLen (by omega), hdis, hreq, hen, hrdy, hinv.single (by omega) (by omega)⟩

end Sys2Proof.Machine
end

section
/-! Proof of the statement about the four polls (R164, R264, R265): which converter step a waiting SEQ awaits, that
taking it ends the wait, and that nothing else but a reset takes it away. -/

namespace Sys2Proof.Machine

/-! The event a step takes (R110). -/

theorem eventOfCode_code (e : Event) : eventOfCode e.code = some e := by
  cases e <;> rfl

/-- Only the pick of an event fetches that event's instruction. -/
theorem pick_of_decode_eventInstr {p : Pick} {s : State} {e : Event} (h : decode (s.fetch p) = .ok (eventInstr e)) :
    p = .evt e := by
  have hcode : s.fetch p = .evt e.code := (encode_of_decode h).2.symm.trans (encode_eventInstr e)
  cases p with
  | seq => cases hcode
  | sync =>
    by_cases hb : s.sync.rxq = [] ∨ 8 ≤ s.sync.st.toNat
    · rw [fetch_sync_without_byte hb] at hcode
      cases hcode
    · obtain ⟨hq, hst⟩ := not_or.1 hb
      obtain ⟨b, bs, hq⟩ := List.exists_cons_of_ne_nil hq
      rw [fetch_sync_consuming hq (by omega)] at hcode
      cases hcode
  | evt e' =>
    have hsome : some e' = some e := by
      rw [← eventOfCode_code e', ← eventOfCode_code e, Code.evt.inj hcode]
    rw [Option.some.inj hsome]

/-! The first power-on stays (R300, log 13). -/

/-- SEQ's instructions, the two device resets among them. -/
theorem exec_started_seq {i : Instr} (hi : i.agent = .seq) {s : State} (h : s.started = true) :
    Ensures (exec i s) fun t => t.started = true := by
  cases i with
  | initClk | initPin | initPresc | initPwr | initSettle | initMode | initSmp | initSeqlen
  | convSel | convClr | convRead | txSync1 | txEnd | delay => exact .done h
  | initDisChk | initDisWait | initCalWait | initRdyWait | convWait => exact .ite (fun _ => .done h) fun _ => .done h
  | initCal | initEn | convStart => exact .ite (fun _ => .raise h) fun _ => .done h
  | txSync0 => refine .done ?_; cases s.cfg.tsDev <;> exact h
  | txLo | txHi => exact .sendSample (fun _ => h) fun _ => h
  | txTs0 | txTs1 | txTs2 | txTs3 => exact .sendStamp (fun _ => h) fun _ => h
  | resetPor => exact .done rfl
  | resetWarm => exact .ite (fun _ => .done h) fun _ => .hold h
  | _ => cases hi

theorem exec_started (i : Instr) {s : State} (h : s.started = true) :
    Ensures (exec i s) fun t => t.started = true := by
  intro t ht
  cases hi : i.agent with
  | seq => exact exec_started_seq hi h t ht
  | adc =>
    obtain ⟨-, -, -, -, hs⟩ := exec_frame_adc hi s t ht
    exact hs.trans h
  | sync =>
    obtain ⟨-, -, -, -, hs⟩ := exec_frame_sync hi s t ht
    exact hs.trans h
  | link =>
    obtain ⟨-, -, -, hs⟩ := exec_frame_linkHost (.inl hi) s t ht
    exact hs.trans h
  | host =>
    obtain ⟨-, -, -, hs⟩ := exec_frame_linkHost (.inr hi) s t ht
    exact hs.trans h
  | tmr => exact absurd hi (agent_ne_tmr i)

/-- Once powered on, the device stays so. -/
theorem step_started {s t : State} (hs : s.started = true) (h : step s = .next t) : t.started = true :=
  step_keeps (P := fun u => u.started = true) (fun _ _ h => h) (fun _ h => h) (fun i _ _ _ hu => exec_started i hu) hs h

/-! What a waiting SEQ awaits (R135, R139, R144, R153). -/

/-- The four polls as the hangs they are if the wait lasts, each with the event that ends it (R164, R264, R265). -/
def polls : List (Report × Event) :=
  [(.hangInitDis, .adcDisDone), (.hangInitCal, .adcCalDone), (.hangInitRdy, .adcReady), (.hangConvEoc, .adcConvDone)]

/-- `Awaits c a r e`: with SEQ at state `c` and the converter `a`, SEQ waits at the poll of `r`, and the converter step
of `e`, which ends the wait, is enabled. -/
inductive Awaits (c : BitVec 8) (a : Adc) : Report → Event → Prop where
  | disable (hpc : c = 0x05) (hreq : a.disReq = true) : Awaits c a .hangInitDis .adcDisDone
  | calibrate (hpc : c = 0x09) (hcal : a.cal = true) : Awaits c a .hangInitCal .adcCalDone
  | ready (hpc : c = 0x0E) (hrdy : a.rdy = false) (hcan : a.canReady = true) : Awaits c a .hangInitRdy .adcReady
  | convert (hpc : c = 0x13) (heoc : a.eoc = false) (hcan : a.canConvert = true) :
      Awaits c a .hangConvEoc .adcConvDone

theorem Awaits.waiting {s : State} {r : Report} {e : Event} (h : Awaits s.seq.pc s.adc r e) : s.waiting = some r := by
  cases h with
  | disable hpc hreq => simp [State.waiting, hpc, Adc.disableDone, hreq]
  | calibrate hpc hcal => simp [State.waiting, hpc, Adc.calDone, hcal]
  | ready hpc hrdy => simp [State.waiting, hpc, Adc.isReady, hrdy]
  | convert hpc heoc => simp [State.waiting, hpc, Adc.convDone, heoc]

theorem Awaits.enabled {s : State} {r : Report} {e : Event} (h : Awaits s.seq.pc s.adc r e) (hs : s.started = true) :
    eventEnabled e s = true := by
  cases h with
  | disable _ hcan | calibrate _ hcan | ready _ _ hcan | convert _ _ hcan => exact Bool.and_eq_true_iff.2 ⟨hs, hcan⟩

/-- SEQ stands at one of the four polls. -/
theorem Awaits.at_poll {c : BitVec 8} {a : Adc} {r : Report} {e : Event} (h : Awaits c a r e) :
    c = 0x05 ∨ c = 0x09 ∨ c = 0x0E ∨ c = 0x13 := by
  cases h with
  | disable hpc | calibrate hpc | ready hpc | convert hpc => simp [hpc]

/-- Where SEQ waits and why, read off `State.waiting` (R264, R265). -/
theorem waiting_eq_some_iff (s : State) (r : Report) : s.waiting = some r ↔
    (r = .hangInitDis ∧ s.seq.pc = 0x05 ∧ s.adc.disableDone = false) ∨
    (r = .hangInitCal ∧ s.seq.pc = 0x09 ∧ s.adc.calDone = false) ∨
    (r = .hangInitRdy ∧ s.seq.pc = 0x0E ∧ s.adc.isReady = false) ∨
    (r = .hangConvEoc ∧ s.seq.pc = 0x13 ∧ s.adc.convDone = false) := by
  unfold State.waiting
  grind

/-- Under the device's invariant a waiting SEQ awaits the step of its poll. Only for the ready poll does the invariant
not say that the request is still pending (log 22). -/
theorem awaits_of_waiting {s : State} {p : Report × Event} (hinv : DeviceInv s) (hp : p ∈ polls)
    (hw : s.waiting = some p.1) (hready : p.1 = .hangInitRdy → s.adc.enReq = true ∧ s.adc.disReq = false) :
    Awaits s.seq.pc s.adc p.1 p.2 := by
  rw [waiting_eq_some_iff] at hw
  simp only [polls, List.mem_cons, List.not_mem_nil, or_false] at hp
  rcases hp with rfl | rfl | rfl | rfl
  · obtain ⟨hpc, hpoll⟩ : s.seq.pc = 0x05 ∧ s.adc.disableDone = false := by simpa using hw
    refine .disable hpc ?_
    rcases hinv.disWait (by simp [hpc]) with hreq | ⟨hen, -⟩
    · exact hreq
    · simpa [Adc.disableDone, hen] using hpoll
  · obtain ⟨hpc, hpoll⟩ : s.seq.pc = 0x09 ∧ s.adc.calDone = false := by simpa using hw
    exact .calibrate hpc (by simpa [Adc.calDone] using hpoll)
  · obtain ⟨hpc, hpoll⟩ : s.seq.pc = 0x0E ∧ s.adc.isReady = false := by simpa using hw
    obtain ⟨hreq, hdis⟩ := hready rfl
    obtain ⟨hdpd, hreg⟩ := hinv.power (by simp [hpc])
    exact .ready hpc hpoll ((canReady_iff _).2 ⟨hreq, hdis, hinv.calOff (by simp [hpc]), hdpd, hreg⟩)
  · obtain ⟨hpc, heoc⟩ : s.seq.pc = 0x13 ∧ s.adc.eoc = false := by simpa [Adc.convDone] using hw
    obtain ⟨hen, -⟩ := hinv.running (by simp [hpc])
    have hstart : s.adc.start = true := by simpa [heoc] using hinv.convert (by simp [hpc])
    exact .convert hpc heoc ((canConvert_iff _).2 ⟨hstart, hen⟩)

/-! What becomes of the wait (R164). -/

/-- The awaited step ends the wait where SEQ stands. -/
theorem Awaits.exec_ends_wait {s : State} {r : Report} {e : Event} (h : Awaits s.seq.pc s.adc r e) :
    Ensures (exec (eventInstr e) s) fun t => t.waiting = none ∧ t.seq.pc = s.seq.pc := by
  cases h with
  | disable hpc hcan =>
    exact .ite (fun _ => .done ⟨by simp [State.waiting, hpc, Adc.disableDone], rfl⟩) fun hn => absurd hcan hn
  | calibrate hpc hcan =>
    exact .ite (fun _ => .done ⟨by simp [State.waiting, hpc, Adc.calDone], rfl⟩) fun hn => absurd hcan hn
  | ready hpc _ hcan =>
    exact .ite (fun _ => .done ⟨by simp [State.waiting, hpc, Adc.isReady], rfl⟩) fun hn => absurd hcan hn
  | convert hpc _ hcan =>
    exact .ite (fun _ => .done ⟨by simp [State.waiting, hpc, Adc.convDone], rfl⟩) fun hn => absurd hcan hn

/-- A waiting SEQ goes nowhere but by RESET_WARM: the poll's own condition is false, and no other move starts there. -/
theorem Awaits.moves {s : State} {i : Instr} {c : BitVec 8} {r : Report} {e : Event}
    (hw : Awaits s.seq.pc s.adc r e) (hat : At i s) (hm : Moves s i c) : i = .resetWarm ∧ c = 0x01 := by
  have hwait := hw.waiting
  cases hm with
  | resetWarm => exact ⟨rfl, rfl⟩
  | initDisWait hu | initCalWait hu | initRdyWait hu | convWait hu =>
    simp [State.waiting, show s.seq.pc = _ from hat, hu] at hwait
  | initDisChk | initSettle | delay => simp [State.waiting, show s.seq.pc = _ from hat] at hwait
  | onward hi hk =>
    obtain rfl : s.seq.pc = _ := by simpa only [At, hi] using hat
    rcases hw.at_poll with hpc | hpc | hpc | hpc <;> simp [hpc] at hk

/-- Any step but the awaited one leaves the wait as it is, or is a reset. No other converter step is enabled that
would touch it: the invariant, and the awaited step's own condition, exclude them. -/
theorem Awaits.kept {s : State} {i : Instr} {c : BitVec 8} {a : Adc} {r : Report} {e : Event} (hinv : DeviceInv s)
    (hat : At i s) (hi : i ≠ eventInstr e) (hw : Awaits s.seq.pc s.adc r e) (hd : DeviceStep s i c a) :
    Awaits c a r e ∨ (c = 0x01 ∧ (i = .resetPor ∨ i = .resetWarm)) := by
  have hcalm : s.seq.pc = 0x13 → s.adc.canConvert = true → s.adc.disReq = false ∧ s.adc.enReq = false :=
    fun hpc hcan => hinv.calm (by simp [hpc]) ((canConvert_iff _).1 hcan).2
  cases hd with
  | stay => exact .inl hw
  | resetPor => exact .inr ⟨rfl, .inl rfl⟩
  | move hm =>
    obtain ⟨hwarm, hc⟩ := hw.moves hat hm
    exact .inr ⟨hc, .inr hwarm⟩
  | initClk | initPin | initPresc | initDisChk | initPwr | initCal | initMode | initSmp | initSeqlen | initEn
  | convSel | convClr | convStart =>
    have hpoll := hw.at_poll
    simp [show s.seq.pc = _ from hat] at hpoll
  | adcDisDone hdis =>
    cases hw with
    | disable => exact absurd rfl hi
    | calibrate hpc hcal => exact .inl (.calibrate hpc hcal)
    | ready _ _ hcan => simp [canReady_iff, hdis] at hcan
    | convert hpc _ hcan => simp [hcalm hpc hcan] at hdis
  | adcCalDone hcal =>
    cases hw with
    | disable hpc hreq => exact .inl (.disable hpc hreq)
    | calibrate => exact absurd rfl hi
    | ready _ _ hcan => simp [canReady_iff, hcal] at hcan
    | convert hpc => simp [hinv.calOff (by simp [hpc])] at hcal
  | adcReady hreq hdis hcal =>
    cases hw with
    | disable _ hreq' => simp [hdis] at hreq'
    | calibrate _ hcal' => simp [hcal] at hcal'
    | ready => exact absurd rfl hi
    | convert hpc _ hcan => simp [hcalm hpc hcan] at hreq
  | adcConvDone =>
    cases hw with
    | disable hpc hreq => exact .inl (.disable hpc hreq)
    | calibrate hpc hcal => exact .inl (.calibrate hpc hcal)
    | ready hpc hrdy hcan => exact .inl (.ready hpc hrdy hcan)
    | convert => exact absurd rfl hi

/-- Settles O59: the invariant gives the awaited step, which ends the wait when it is picked; any other pick runs
another instruction, and that leaves the wait as it is or is a reset. -/
theorem waitingPollsCanComplete : Obligations.WaitingPollsCanComplete := by
  intro s ho hs hinv p hp hw hready
  have haw : Awaits s.seq.pc s.adc p.1 p.2 := awaits_of_waiting hinv hp hw hready
  refine ⟨haw.enabled hs, fun t ht => ?_⟩
  have hst : t.started = true := step_started hs ht
  obtain ⟨-, ⟨-, hs', -⟩ | ⟨-, i, hd, he⟩⟩ := step_next ht
  · simp [hs] at hs'
  split
  · next hpick =>
    obtain rfl : eventInstr p.2 = i := by simpa [hpick, State.fetch] using hd
    exact haw.exec_ends_wait (s := s.afterPick) t he
  · next hpick =>
    have hi : i ≠ eventInstr p.2 := fun h => hpick (pick_of_decode_eventInstr (h ▸ hd))
    obtain ⟨-, hdev⟩ := exec_device i s.afterPick t he
    have hat : At i s.afterPick := at_of_fetch ((fetch_afterPick s _).symm ▸ hd)
    rcases haw.kept (s := s.afterPick) { hinv with } hat hi hdev with hk | ⟨hpc, rfl | rfl⟩
    · exact .inl ⟨hk.waiting, hk.enabled hst⟩
    · exact .inr ⟨hpc, .inl (pick_of_decode_eventInstr (e := .resetPor) hd)⟩
    · exact .inr ⟨hpc, .inr (pick_of_decode_eventInstr (e := .resetWarm) hd)⟩

end Sys2Proof.Machine
end

section
/-! Proofs of the statements about the frame encoder (R181 to R190): the bytes of a sample and of a timestamp by
arithmetic, the steps TX_SYNC0 to TX_END, and the frame that SEQ sends when it moves alone. -/

namespace Sys2Proof.Machine

/-! The bytes of a sample and of a timestamp (R101). -/

/-- The byte of a word that begins at bit `k`. -/
theorem extractLsb'_byte_eq_div {w : Nat} (x : BitVec w) (k : Nat) :
    x.extractLsb' k 8 = BitVec.ofNat 8 (x.toNat / 2 ^ k) := by
  rw [BitVec.extractLsb', Nat.shiftRight_eq_div_pow]

theorem ofNat_byte_mod (n : Nat) : BitVec.ofNat 8 (n % 256) = BitVec.ofNat 8 n :=
  BitVec.eq_of_toNat_eq (by simp)

theorem sampleLo_eq_mod (v : U16) : sampleLo v = BitVec.ofNat 8 (v.toNat % 256) := by
  rw [ofNat_byte_mod, sampleLo, extractLsb'_byte_eq_div, pow_zero, Nat.div_one]

theorem sampleHi_eq_div (v : U16) : sampleHi v = BitVec.ofNat 8 (v.toNat / 256) :=
  extractLsb'_byte_eq_div v 8

theorem stampByte0_eq_mod (t : U32) : stampByte0 t = BitVec.ofNat 8 (t.toNat % 256) := by
  rw [ofNat_byte_mod, stampByte0, extractLsb'_byte_eq_div, pow_zero, Nat.div_one]

theorem stampByte1_eq_mod (t : U32) : stampByte1 t = BitVec.ofNat 8 (t.toNat / 2 ^ 8 % 256) := by
  rw [ofNat_byte_mod, stampByte1, extractLsb'_byte_eq_div]

theorem stampByte2_eq_mod (t : U32) : stampByte2 t = BitVec.ofNat 8 (t.toNat / 2 ^ 16 % 256) := by
  rw [ofNat_byte_mod, stampByte2, extractLsb'_byte_eq_div]

theorem stampByte3_eq_div (t : U32) : stampByte3 t = BitVec.ofNat 8 (t.toNat / 2 ^ 24) :=
  extractLsb'_byte_eq_div t 24

theorem frameBytes_eq (v : U16) : frameBytes v = [marker, marker, sampleLo v, sampleHi v] := by
  rw [sampleLo_eq_mod, sampleHi_eq_div]
  rfl

theorem stampBytes_eq (t : U32) : stampBytes t = [stampByte0 t, stampByte1 t, stampByte2 t, stampByte3 t] := by
  rw [stampByte0_eq_mod, stampByte1_eq_mod, stampByte2_eq_mod, stampByte3_eq_div]
  rfl

/-! The single steps (R182 to R190). -/

/-- A difference of timestamps is the difference modulo `2^32` (R182). -/
theorem stamp_sub_eq_mod (t u : U32) : t - u = BitVec.ofNat 32 ((t.toNat + 2 ^ 32 - u.toNat) % 2 ^ 32) := by
  apply BitVec.eq_of_toNat_eq
  rw [BitVec.toNat_sub, BitVec.toNat_ofNat, Nat.mod_mod]
  congr 1
  omega

theorem execTxSync0_plain {s : State} (h : s.cfg.tsDev = false) :
    execTxSync0 s = done (((s.withSeq { s.seq with diagTx := true }).send marker).goto 0x21) := by
  have hts : ¬ s.cfg.tsDev = true := by simp [h]
  rw [execTxSync0, if_neg hts]

theorem execTxSync0_stamped {s : State} (h : s.cfg.tsDev = true) :
    execTxSync0 s = done (((captureStamp (s.withSeq { s.seq with diagTx := true })).send marker).goto 0x21) := by
  rw [execTxSync0, if_pos h]

/-- In both modes TX_SYNC0 sends the marker and leaves the sample and the schedule; in timestamp mode it writes the
timestamp. -/
theorem execTxSync0_opens (s : State) : ∃ (q : Seq) (e : Env) (ts : U32),
    execTxSync0 s = done ((((s.withSeq q).withEnv e).send marker).goto 0x21) ∧ q.v = s.seq.v ∧
      e.picks = s.env.picks ∧ (s.cfg.tsDev = true → q.ts = some ts) := by
  cases hts : s.cfg.tsDev with
  | false => exact ⟨{ s.seq with diagTx := true }, s.env, 0, execTxSync0_plain hts, rfl, rfl, nofun⟩
  | true => exact ⟨_, _, _, execTxSync0_stamped hts, rfl, rfl, fun _ => rfl⟩

theorem sendSample_of_some {s : State} {v : U16} (h : s.seq.v = some v) (field : U16 → Byte) (code succ : BitVec 8) :
    sendSample field code succ s = done ((s.send (field v)).goto succ) := by
  simp only [sendSample, h]

theorem sendStamp_of_some {s : State} {t : U32} (h : s.seq.ts = some t) (field : U32 → Byte) (code succ : BitVec 8) :
    sendStamp field code succ s = done ((s.send (field t)).goto succ) := by
  simp only [sendStamp, h]

/-- Settles O18: the two forms of TX_SYNC0; the reading is the head of `env.tmr`, or the free value. -/
theorem txSync0 : Obligations.TxSync0 := by
  refine fun s => ⟨execTxSync0_plain, fun h => ?_, fun t ts ht => ?_, fun ht => ?_⟩
  · rw [← stamp_sub_eq_mod]
    exact execTxSync0_stamped h
  · rw [State.tmrRead, ht, List.headD_cons]
  · rw [State.tmrRead, ht, List.headD_nil]

/-- Settles O19: the marker and the end test nothing; with the sample written its two bytes are sent. -/
theorem txMarkerSampleEnd : Obligations.TxMarkerSampleEnd := by
  refine fun s => ⟨rfl, rfl, fun v hv => ?_⟩
  rw [← sampleLo_eq_mod, ← sampleHi_eq_div]
  exact ⟨sendSample_of_some hv _ _ _, sendSample_of_some hv _ _ _⟩

/-- Settles O20: with the timestamp written each step sends its byte of it. -/
theorem txTimestampBytes : Obligations.TxTimestampBytes := by
  intro s t ht
  rw [← stampByte0_eq_mod, ← stampByte1_eq_mod, ← stampByte2_eq_mod, ← stampByte3_eq_div]
  exact ⟨sendStamp_of_some ht _ _ _, sendStamp_of_some ht _ _ _, sendStamp_of_some ht _ _ _,
    sendStamp_of_some ht _ _ _⟩

/-! SEQ moving alone (R11). -/

/-- A run begins with the step of the state it starts in. -/
theorem run_succ_of_step {n : Nat} {s t : State} (h : step s = .next t) :
    Host.Core.run core (n + 1) s = Host.Core.run core n t := by
  have hcore : core.step s = .next t := h
  simp only [Host.Core.run, hcore]

/-- A run is made longer by the step of the state it ends in. -/
theorem run_snoc {n : Nat} {s t u : State} (hrun : Host.Core.run core n s = .next t) (hstep : step t = .next u) :
    Host.Core.run core (n + 1) s = .next u := by
  induction n generalizing s with
  | zero =>
    cases hrun
    exact run_succ_of_step hstep
  | succ n ih =>
    simp only [Host.Core.run] at hrun
    split at hrun
    · next s' hs' => exact (run_succ_of_step hs').trans (ih hrun)
    · cases hrun
    · cases hrun

/-- SEQ's step from a state of the model is the instruction of its state. -/
theorem step_seq {s : State} {i : Instr} (ho : s.outside = none) (hs : s.started = true) (hp : s.pick = .seq)
    (hd : decodeSeq s.seq.pc = .ok i) : step s = exec i s.afterPick := by
  rw [step_of_inside ho, hp]
  exact runPick_of_decode (fun _ => hs) hd

/-- With the same configuration and SYNC state, a listed state of SEQ is a state of the model again. -/
theorem outside_of_listed {s t : State} (ho : s.outside = none) (hcfg : t.cfg = s.cfg) (hsync : t.sync = s.sync)
    (hpc : listedPc t.seq.pc = true) : t.outside = none := by
  obtain ⟨hwf, -, hst⟩ := (outside_eq_none_iff s).1 ho
  exact (outside_eq_none_iff t).2 ⟨hcfg ▸ hwf, hpc, hsync ▸ hst⟩

theorem pick_of_schedule {n : Nat} {s : State} (h : List.replicate (n + 1) .seq <+: s.env.picks) : s.pick = .seq := by
  obtain ⟨ps, hps⟩ := h
  rw [State.pick, ← hps]
  rfl

theorem schedule_tail {n : Nat} {s : State} (h : List.replicate (n + 1) .seq <+: s.env.picks) :
    List.replicate n .seq <+: s.env.picks.tail := by
  obtain ⟨ps, hps⟩ := h
  exact ⟨ps, by rw [← hps]; rfl⟩

/-! The frame (R181): up to TX_END every step sends one byte. -/

/-- From `s` SEQ alone has sent the bytes `bs` of the frame of sample `v` and, in timestamp mode, timestamp `ts`, one a
step. That brought it to `t`, where it stands at `c`, and the next `n` picks are SEQ's too. -/
structure Sending (s : State) (v : U16) (ts : U32) (n : Nat) (c : BitVec 8) (bs : List Byte) (t : State) : Prop where
  run     : Host.Core.run core bs.length s = .next t
  inside  : t.outside = none
  started : t.started = true
  picks   : List.replicate n .seq <+: t.env.picks
  pc      : t.seq.pc = c
  sample  : t.seq.v = some v
  stamp   : s.cfg.tsDev = true → t.seq.ts = some ts
  cfg     : t.cfg = s.cfg
  sent    : t.link.sent = s.link.sent ++ bs
  queued  : t.link.q = s.link.q ++ bs
  faults  : t.faults = s.faults

section
variable {s t : State} {v : U16} {ts : U32} {n : Nat} {c : BitVec 8} {bs : List Byte}

/-- The next step is the one of the state SEQ stands at. -/
theorem Sending.run_exec {i : Instr} {u : State} (h : Sending s v ts (n + 1) c bs t) (hd : decodeSeq c = .ok i)
    (he : exec i t.afterPick = .next u) : Host.Core.run core (bs.length + 1) s = .next u :=
  run_snoc h.run ((step_seq h.inside h.started (pick_of_schedule h.picks) (h.pc.symm ▸ hd)).trans he)

/-- A step that sends a byte and goes on. -/
theorem Sending.send {i : Instr} {b : Byte} {c' : BitVec 8} (h : Sending s v ts (n + 1) c bs t)
    (hd : decodeSeq c = .ok i) (he : exec i t.afterPick = done ((t.afterPick.send b).goto c'))
    (hc : listedPc c' = true) :
    ∃ u, Sending s v ts n c' (bs ++ [b]) u :=
  ⟨{ (t.afterPick.send b).goto c' with last := .next },
    { run := by
        rw [List.length_append]
        exact h.run_exec hd he
      inside := outside_of_listed h.inside rfl rfl hc
      started := h.started
      picks := schedule_tail h.picks
      pc := rfl
      sample := h.sample
      stamp := h.stamp
      cfg := h.cfg
      sent := by simp [h.sent]
      queued := by simp [h.queued]
      faults := h.faults }⟩

/-- TX_SYNC0 opens the frame. -/
theorem sending_first (ho : s.outside = none) (hs : s.started = true) (hp : List.replicate (n + 1) .seq <+: s.env.picks)
    (hpc : s.seq.pc = 0x20) (hv : s.seq.v = some v) : ∃ ts t, Sending s v ts n 0x21 [marker] t := by
  obtain ⟨q, e, ts, he, hqv, hpicks, hstamp⟩ := execTxSync0_opens s.afterPick
  have hstep : step s = execTxSync0 s.afterPick :=
    step_seq (i := .txSync0) ho hs (pick_of_schedule hp) (by rw [hpc]; rfl)
  exact ⟨ts, _,
    { run := run_succ_of_step (hstep.trans he)
      inside := outside_of_listed ho rfl rfl rfl
      started := hs
      picks := hpicks ▸ schedule_tail hp
      pc := rfl
      sample := hqv.trans hv
      stamp := hstamp
      cfg := rfl
      sent := rfl
      queued := rfl
      faults := rfl }⟩

/-- TX_SYNC1, TX_LO and TX_HI. -/
theorem Sending.sample_sent (h : Sending s v ts (n + 3) 0x21 [marker] t) :
    ∃ u, Sending s v ts n (if s.cfg.tsDev then 0x24 else 0x28) (frameBytes v) u := by
  obtain ⟨t₂, h₂⟩ := h.send (i := .txSync1) rfl rfl rfl
  obtain ⟨t₃, h₃⟩ := h₂.send (i := .txLo) rfl (sendSample_of_some (s := t₂.afterPick) h₂.sample _ _ _) rfl
  have hlisted : listedPc (if t₃.cfg.tsDev then 0x24 else 0x28) = true := by cases t₃.cfg.tsDev <;> rfl
  rw [frameBytes_eq, ← h₃.cfg]
  exact h₃.send (i := .txHi) rfl (sendSample_of_some (s := t₃.afterPick) h₃.sample _ _ _) hlisted

/-- TX_TS0 to TX_TS3. -/
theorem Sending.stamp_sent (hts : s.cfg.tsDev = true) (h : Sending s v ts (n + 4) 0x24 bs t) :
    ∃ u, Sending s v ts n 0x28 (bs ++ stampBytes ts) u := by
  obtain ⟨t₁, h₁⟩ := h.send (i := .txTs0) rfl (sendStamp_of_some (s := t.afterPick) (h.stamp hts) _ _ _) rfl
  obtain ⟨t₂, h₂⟩ := h₁.send (i := .txTs1) rfl (sendStamp_of_some (s := t₁.afterPick) (h₁.stamp hts) _ _ _) rfl
  obtain ⟨t₃, h₃⟩ := h₂.send (i := .txTs2) rfl (sendStamp_of_some (s := t₂.afterPick) (h₂.stamp hts) _ _ _) rfl
  obtain ⟨t₄, h₄⟩ := h₃.send (i := .txTs3) rfl (sendStamp_of_some (s := t₃.afterPick) (h₃.stamp hts) _ _ _) rfl
  exact ⟨t₄, by simpa [stampBytes_eq] using h₄⟩

/-- TX_END sends nothing and leaves SEQ at DELAY. -/
theorem Sending.ended (h : Sending s v ts (n + 1) 0x28 bs t) :
    ∃ u, Host.Core.run core (bs.length + 1) s = .next u ∧ u.seq.pc = 0x30 ∧ u.seq.ts = t.seq.ts ∧
      u.link.sent = s.link.sent ++ bs ∧ u.link.q = s.link.q ++ bs ∧ u.faults = s.faults :=
  ⟨_, h.run_exec (i := .txEnd) rfl rfl, rfl, rfl, h.sent, h.queued, h.faults⟩

end

/-- Settles O23: TX_SYNC0, the rest of the sample's frame, the timestamp in timestamp mode, and TX_END. -/
theorem frameBytesOnTheWire : Obligations.FrameBytesOnTheWire := by
  refine fun s v ps ho hs hpc hv => ⟨fun hts hp => ?_, fun hts hp => ?_⟩
  · obtain ⟨ts, t₁, h₁⟩ := sending_first (n := 4) ho hs ⟨ps, hp.symm⟩ hpc hv
    obtain ⟨t₄, h₄⟩ := h₁.sample_sent
    simp only [hts] at h₄
    obtain ⟨t, hrun, hend, -, hsent, hq, hf⟩ := h₄.ended
    exact ⟨t, hrun, hend, hsent, hq, hf⟩
  · obtain ⟨ts, t₁, h₁⟩ := sending_first (n := 8) ho hs ⟨ps, hp.symm⟩ hpc hv
    obtain ⟨t₄, h₄⟩ := h₁.sample_sent
    simp only [hts] at h₄
    obtain ⟨t₈, h₈⟩ := h₄.stamp_sent hts
    obtain ⟨t, hrun, hend, hstamp, hsent, hq, hf⟩ := h₈.ended
    rw [← List.append_assoc] at hsent hq
    exact ⟨t, ts, hrun, hend, hstamp.trans (h₈.stamp hts), hsent, hq, hf⟩

end Sys2Proof.Machine
end

section
/-! Proofs of the statements about the single steps of the frame synchronizer (R202 to R213), of the link (R215 to R219)
and of the host (R220, R302). -/

namespace Sys2Proof.Machine

/-! The accumulators, byte by byte (R206 to R211), by arithmetic. -/

theorem toNat_append_eq_add {m n : Nat} (x : BitVec m) (y : BitVec n) :
    (x ++ y).toNat = x.toNat * 2 ^ n + y.toNat := by
  rw [BitVec.toNat_append, ← Nat.shiftLeft_add_eq_or_of_lt y.isLt, Nat.shiftLeft_eq]

theorem toNat_extractLsb'_eq_div_mod {w : Nat} (x : BitVec w) (k n : Nat) :
    (x.extractLsb' k n).toNat = x.toNat / 2 ^ k % 2 ^ n := by
  rw [BitVec.extractLsb'_toNat, Nat.shiftRight_eq_div_pow]

theorem eq_ofNat_of_toNat_eq {w n : Nat} {x : BitVec w} (h : x.toNat = n) : x = BitVec.ofNat w n := by
  rw [← h, BitVec.ofNat_toNat, BitVec.setWidth_eq]

theorem sampleFromLo_eq_ofNat (b : Byte) : sampleFromLo b = BitVec.ofNat 16 b.toNat :=
  (BitVec.ofNat_toNat 16 b).symm

theorem stampFromByte0_eq_ofNat (b : Byte) : stampFromByte0 b = BitVec.ofNat 32 b.toNat :=
  (BitVec.ofNat_toNat 32 b).symm

theorem toNat_sampleSetHi (v : U16) (b : Byte) : (sampleSetHi v b).toNat = v.toNat % 256 + 256 * b.toNat := by
  rw [sampleSetHi, toNat_append_eq_add, toNat_extractLsb'_eq_div_mod]
  omega

theorem toNat_stampSetByte1 (t : U32) (b : Byte) :
    (stampSetByte1 t b).toNat = t.toNat / 2 ^ 16 * 2 ^ 16 + 2 ^ 8 * b.toNat + t.toNat % 2 ^ 8 := by
  simp only [stampSetByte1, toNat_append_eq_add, toNat_extractLsb'_eq_div_mod]
  omega

theorem toNat_stampSetByte2 (t : U32) (b : Byte) :
    (stampSetByte2 t b).toNat = t.toNat / 2 ^ 24 * 2 ^ 24 + 2 ^ 16 * b.toNat + t.toNat % 2 ^ 16 := by
  simp only [stampSetByte2, toNat_append_eq_add, toNat_extractLsb'_eq_div_mod]
  omega

theorem toNat_stampSetByte3 (t : U32) (b : Byte) :
    (stampSetByte3 t b).toNat = 2 ^ 24 * b.toNat + t.toNat % 2 ^ 24 := by
  simp only [stampSetByte3, toNat_append_eq_add, toNat_extractLsb'_eq_div_mod]
  omega

/-! A byte written into a written accumulator (R207, R209 to R211). -/

theorem execRs1Hi_of_some {s : State} {v : U16} (h : s.sync.accS = some v) (b : Byte) :
    execRs1Hi b s =
      done ((s.recv.putSample (some (sampleSetHi v b))).enter (if s.cfg.tsHost then 4 else 8)) := by
  rw [execRs1Hi, h, Option.map_some]

theorem execRt1B1_of_some {s : State} {t : U32} (h : s.sync.accT = some t) (b : Byte) :
    execRt1B1 b s = done ((s.recv.putStamp (some (stampSetByte1 t b))).enter 6) := by
  rw [execRt1B1, h, Option.map_some]

theorem execRt2B2_of_some {s : State} {t : U32} (h : s.sync.accT = some t) (b : Byte) :
    execRt2B2 b s = done ((s.recv.putStamp (some (stampSetByte2 t b))).enter 7) := by
  rw [execRt2B2, h, Option.map_some]

theorem execRt3B3_of_some {s : State} {t : U32} (h : s.sync.accT = some t) (b : Byte) :
    execRt3B3 b s = done ((s.recv.putStamp (some (stampSetByte3 t b))).enter 8) := by
  rw [execRt3B3, h, Option.map_some]

/-- SEEK2_MISS of a byte that is no marker (R205). -/
theorem execSeek2Miss_of_ne {b : Byte} (h : b ≠ marker) (s : State) :
    execSeek2Miss b s = done (s.recv.enter 0) := by
  rw [execSeek2Miss, if_neg h]

/-- Settles O24: none of the four steps but SEEK2_MISS tests anything, and its byte is no marker. -/
theorem markerSearch : Obligations.MarkerSearch :=
  fun s => ⟨rfl, fun _ => rfl, rfl, fun _ hb => execSeek2Miss_of_ne hb s⟩

/-- Settles O25: the first byte fills the sample and the second is written above it. -/
theorem sampleAssembly : Obligations.SampleAssembly := by
  refine fun s b => ⟨?_, fun v hv => ?_⟩
  · rw [← sampleFromLo_eq_ofNat]
    rfl
  · rw [← eq_ofNat_of_toNat_eq (toNat_sampleSetHi v b)]
    exact execRs1Hi_of_some hv b

/-- Settles O26: the first byte fills the timestamp and the three others are written into it. -/
theorem timestampAssembly : Obligations.TimestampAssembly := by
  refine fun s b => ⟨?_, fun t ht => ?_⟩
  · rw [← stampFromByte0_eq_ofNat]
    rfl
  · rw [← eq_ofNat_of_toNat_eq (toNat_stampSetByte1 t b), ← eq_ofNat_of_toNat_eq (toNat_stampSetByte2 t b),
      ← eq_ofNat_of_toNat_eq (toNat_stampSetByte3 t b)]
    exact ⟨execRt1B1_of_some ht b, execRt2B2_of_some ht b, execRt3B3_of_some ht b⟩

/-! The end of the stream (R201, R212). -/

theorem eosEnabled_iff (s : State) :
    s.eosEnabled = true ↔ s.sync.st.toNat < 8 ∧ s.sync.rxq = [] ∧ s.sync.eos = true := by
  simp [State.eosEnabled, consuming_iff, and_assoc]

/-- Settles O28: the test of EOS_END is its enabling condition; ENDED tests nothing. -/
theorem endOfStream : Obligations.EndOfStream :=
  fun s => ⟨fun _ hst hq heos => if_pos ((eosEnabled_iff s).2 ⟨hst, hq, heos⟩),
    fun _ h => if_neg (mt (eosEnabled_iff s).1 h), rfl⟩

/-! The link (R215 to R219). -/

/-- The queue without its head. -/
theorem unqueue_of_cons {s : State} {b : Byte} {bs : List Byte} (h : s.link.q = b :: bs) :
    s.unqueue = s.withLink { s.link with q := bs } := by
  rw [State.unqueue, h, List.tail_cons]

theorem execLinkDeliver_of_cons {s : State} {b : Byte} {bs : List Byte} (hq : s.link.q = b :: bs)
    (hc : s.link.closed = false) :
    execLinkDeliver s = done ((s.withLink { s.link with q := bs }).receive b) := by
  simp [execLinkDeliver, hq, hc, unqueue_of_cons hq]

theorem execLinkDrop_of_cons {s : State} {b : Byte} {bs : List Byte} (hq : s.link.q = b :: bs) :
    execLinkDrop s = done (s.withLink { s.link with q := bs }) := by
  simp [execLinkDrop, hq, unqueue_of_cons hq]

theorem execLinkCorrupt_of_cons {s : State} {b : Byte} {bs : List Byte} (hq : s.link.q = b :: bs)
    (hc : s.link.closed = false) :
    execLinkCorrupt s = done ((s.afterNoise.withLink { s.link with q := bs }).receive s.noiseDraw) := by
  simp [execLinkCorrupt, hq, hc, unqueue_of_cons (s := s.afterNoise) hq]

theorem execLinkInsert_of_open {s : State} (hc : s.link.closed = false) :
    execLinkInsert s = done (s.afterNoise.receive s.noiseDraw) :=
  if_neg (by simp [hc])

theorem execLinkClose_of_open {s : State} (hc : s.link.closed = false) :
    execLinkClose s = done ((s.withLink { s.link with closed := true }).withSync { s.sync with eos := true }) :=
  if_neg (by simp [hc])

/-- Settles O39: with a byte in flight, or the link open, each of the five steps has its effect. -/
theorem linkEvents : Obligations.LinkEvents :=
  fun _ => ⟨fun _ _ => execLinkDeliver_of_cons, fun _ _ => execLinkDrop_of_cons, fun _ _ => execLinkCorrupt_of_cons,
    execLinkInsert_of_open, execLinkClose_of_open⟩

/-! The host (R220, R236, R302). -/

theorem execHostStop_of_running {s : State} (hstop : s.sync.stop = false) (hst : s.sync.st ≠ 9) :
    execHostStop s = done (s.withSync { s.sync with stop := true }) :=
  if_neg (by simpa [hstop] using hst)

theorem execSessionStart_of_ended {s : State} (hst : s.sync.st = 9) :
    execSessionStart s =
      done ((s.withSync (Sync.sessionStart s.cfg)).withLink { s.link with closed := false }) :=
  if_pos (by simp [hst])

theorem xStart_index {c : Config} (h : c.xunit = .index) (i : Nat) : xStart c i = i := by
  simp only [xStart, h]

theorem xStart_time_fixed {c : Config} (h : c.xunit = .time) (hts : c.tsHost = false) (i : Nat) :
    xStart c i = i / c.fs := by
  simp only [xStart, h, hts]

theorem xStart_time_stamped {c : Config} (h : c.xunit = .time) (hts : c.tsHost = true) (i : Nat) :
    xStart c i = (i - (c.histN - 1)) / c.fs := by
  simp only [xStart, h, hts]

/-- Settles O40: both steps test their enabling condition; the x-axis starts as the mode and the unit say. -/
theorem hostEvents : Obligations.HostEvents :=
  fun _ => ⟨execHostStop_of_running, execSessionStart_of_ended,
    fun i => ⟨fun h => xStart_index h i, fun h hts => xStart_time_fixed h hts i,
      fun h hts => xStart_time_stamped h hts i⟩⟩

end Sys2Proof.Machine
end

section
/-! Proofs of the statements about what the steps can do to SYNC's buffers (R212, R230, R242), to its search for the
marker (R202 to R205, R214) and to the bytes on their way to it (R221). -/

namespace Sys2Proof.Machine

/-! The buffers and the output (R212, R230, R242). -/

/-- The History Buffer, the Rate Estimator and the output are the same. -/
structure SameBuffers (y y' : Sync) : Prop where
  histY : y'.histY = y.histY
  histX : y'.histX = y.histX
  rbuf  : y'.rbuf = y.rbuf
  rcur  : y'.rcur = y.rcur
  rate  : y'.rate = y.rate
  out   : y'.out = y.out

theorem SameBuffers.refl (y : Sync) : SameBuffers y y := ⟨rfl, rfl, rfl, rfl, rfl, rfl⟩

/-- SYNC's instructions other than EMIT write its state, the accumulators and the receive queue. -/
theorem exec_sameBuffers_sync {i : Instr} (hi : i.agent = .sync) (hemit : i ≠ .emit) (s : State) :
    Ensures (exec i s) fun t => SameBuffers s.sync t.sync := by
  cases i with
  | seek1Sync | seek1Discard b | seek2Sync | seek2Miss b | rs0Lo b | rs1Hi b
  | rt0B0 b | rt1B1 b | rt2B2 b | rt3B3 b => exact .done { SameBuffers.refl s.sync with }
  | emit => exact absurd rfl hemit
  | eosEnd st => exact .ite (fun _ => .done { SameBuffers.refl s.sync with }) fun _ => .hold (.refl _)
  | ended => exact .hold (.refl _)
  | _ => cases hi

/-- LINK and HOST, but for the session start, write the receive queue and the marks `eos` and `stop`. -/
theorem exec_sameBuffers_linkHost {i : Instr} (hi : i.agent = .link ∨ i.agent = .host) (hstart : i ≠ .sessionStart)
    (s : State) : Ensures (exec i s) fun t => SameBuffers s.sync t.sync := by
  cases i with
  | linkDeliver => exact .linkDeliver (fun _ => { SameBuffers.refl s.sync with }) (.refl _)
  | linkDrop | linkCorrupt | linkInsert | linkClose | hostStop =>
    exact .ite (fun _ => .hold (.refl _)) fun _ => .done { SameBuffers.refl s.sync with }
  | sessionStart => exact absurd rfl hstart
  | _ => cases hi <;> contradiction

/-- SEQ and the converter leave all of SYNC's state as it is. -/
theorem exec_sameSync_device {i : Instr} (hi : i.agent = .seq ∨ i.agent = .adc) (s : State) :
    Ensures (exec i s) fun t => t.sync = s.sync := by
  intro t ht
  rcases hi with hi | hi
  · exact (exec_frame_seq hi s t ht).2
  · obtain ⟨-, -, hsync, -⟩ := exec_frame_adc hi s t ht
    exact hsync

/-- An instruction is the device's, SYNC's, or an event of LINK or HOST. -/
theorem agent_cases (i : Instr) :
    (i.agent = .seq ∨ i.agent = .adc) ∨ i.agent = .sync ∨ (i.agent = .link ∨ i.agent = .host) := by
  cases hi : i.agent with
  | tmr => exact absurd hi (agent_ne_tmr i)
  | _ => simp

/-- Settles O45: the device writes nothing of SYNC's; the instructions of SYNC, LINK and HOST but the two leave the
buffers and the output. -/
theorem onlyEmitTouchesTheBuffers : Obligations.OnlyEmitTouchesTheBuffers := by
  intro i s t ht hemit hstart
  have hsame : SameBuffers s.sync t.sync := by
    rcases agent_cases i with hi | hi | hi
    · rw [exec_sameSync_device hi s t ht]
      exact .refl _
    · exact exec_sameBuffers_sync hi hemit s t ht
    · exact exec_sameBuffers_linkHost hi hstart s t ht
  obtain ⟨hy, hx, hbuf, hcur, hrate, hout⟩ := hsame
  exact ⟨hy, hx, hbuf, hcur, hrate, hout⟩

/-! The lock (R202 to R205, R214). -/

/-- SYNC's pick fetches the code of a step without a byte, or the token of the byte at the head of the receive queue
(R201). -/
theorem fetch_sync_cases (s : State) : s.fetch .sync = .syncInt s.sync.st ∨
    ∃ b bs, s.sync.rxq = b :: bs ∧ s.fetch .sync = .tok (tokenOf s.sync.st b) := by
  by_cases hb : s.sync.rxq = [] ∨ 8 ≤ s.sync.st.toNat
  · exact .inl (fetch_sync_without_byte hb)
  · obtain ⟨hq, hst⟩ := not_or.1 hb
    obtain ⟨b, bs, hq⟩ := List.exists_cons_of_ne_nil hq
    exact .inr ⟨b, bs, hq, fetch_sync_consuming hq (by omega)⟩

/-- A token is fetched in the token's state, with its byte at the head of the receive queue. -/
theorem of_fetch_eq_tok {p : Pick} {s : State} {t : BitVec 12} (h : s.fetch p = .tok t) :
    s.sync.st = t.extractLsb' 8 4 ∧ s.sync.rxq.head? = some (t.extractLsb' 0 8) := by
  cases p with
  | seq | evt e => cases h
  | sync =>
    obtain hint | ⟨b, bs, hq, htok⟩ := fetch_sync_cases s
    · cases hint.symm.trans h
    · obtain ⟨hst, hbyte⟩ := tokenOf_eq_iff.1 (Code.tok.inj (htok.symm.trans h))
      exact ⟨hst, by rw [hq, List.head?_cons, hbyte]⟩

/-- From `y` to `y'` SYNC comes no nearer to a lock: if it is in RS0 or SEEK2 it was there before, and in SEEK2 it still
has every byte it had. -/
def NoNearerLock (y y' : Sync) : Prop :=
  (y'.st = 2 → y.st = 2) ∧ (y'.st = 1 → y.st = 1 ∧ y.rxq <+: y'.rxq)

theorem NoNearerLock.of_prefix {y y' : Sync} (hst : y'.st = y.st) (hq : y.rxq <+: y'.rxq) : NoNearerLock y y' :=
  ⟨fun h => hst ▸ h, fun h => ⟨hst ▸ h, hq⟩⟩

theorem NoNearerLock.refl (y : Sync) : NoNearerLock y y := .of_prefix rfl (List.prefix_refl _)

/-- SYNC in any other state. -/
theorem NoNearerLock.of_ne {y y' : Sync} (h2 : y'.st ≠ 2) (h1 : y'.st ≠ 1) : NoNearerLock y y' :=
  ⟨fun h => absurd h h2, fun h => absurd h h1⟩

/-- Of SYNC's instructions only the two that consume a marker bring it nearer to a lock; that SEEK2_MISS is of no marker
is R108. -/
theorem exec_noNearerLock_sync {i : Instr} (hi : i.agent = .sync) (hwf : WellFormed i = true) (h1 : i ≠ .seek1Sync)
    (h2 : i ≠ .seek2Sync) (s : State) : Ensures (exec i s) fun t => NoNearerLock s.sync t.sync := by
  cases i with
  | seek1Sync => exact absurd rfl h1
  | seek2Sync => exact absurd rfl h2
  | seek1Discard b | rs0Lo b | rt0B0 b | rt1B1 b | rt2B2 b | rt3B3 b =>
    exact .done (.of_ne (by simp) (by simp))
  | seek2Miss b =>
    have hb : b ≠ marker := bne_iff_ne.1 hwf
    exact .done (.of_ne (by simp [hb]) (by simp [hb]))
  | rs1Hi b =>
    refine .done ?_
    cases s.cfg.tsHost <;> exact .of_ne (by simp) (by simp)
  | emit =>
    refine .emit (fun v _ => ?_) fun _ => .refl _
    cases hstop : s.sync.stop <;> exact .of_ne (by simp [emitted, hstop]) (by simp [emitted, hstop])
  | eosEnd st => exact .ite (fun _ => .done (.of_ne (by simp) (by simp))) fun _ => .hold (.refl _)
  | ended => exact .hold (.refl _)
  | _ => cases hi

/-- LINK only adds to the receive queue, and a session starts in SEEK1. -/
theorem exec_noNearerLock_linkHost {i : Instr} (hi : i.agent = .link ∨ i.agent = .host) (s : State) :
    Ensures (exec i s) fun t => NoNearerLock s.sync t.sync := by
  cases i with
  | linkDeliver => exact .linkDeliver (fun _ => .of_prefix rfl (List.prefix_append _ _)) (.refl _)
  | linkCorrupt | linkInsert =>
    exact .ite (fun _ => .hold (.refl _)) fun _ => .done (.of_prefix rfl (List.prefix_append _ _))
  | linkDrop | linkClose | hostStop =>
    exact .ite (fun _ => .hold (.refl _)) fun _ => .done (.of_prefix rfl (List.prefix_refl _))
  | sessionStart =>
    exact .ite (fun _ => .done (.of_ne (by simp [Sync.sessionStart]) (by simp [Sync.sessionStart])))
      fun _ => .hold (.refl _)
  | _ => cases hi <;> contradiction

/-- Only SEEK1_SYNC and SEEK2_SYNC bring SYNC nearer to a lock. -/
theorem exec_noNearerLock {i : Instr} (hwf : WellFormed i = true) (h1 : i ≠ .seek1Sync) (h2 : i ≠ .seek2Sync)
    (s : State) : Ensures (exec i s) fun t => NoNearerLock s.sync t.sync := by
  intro t ht
  rcases agent_cases i with hi | hi | hi
  · rw [exec_sameSync_device hi s t ht]
    exact .refl _
  · exact exec_noNearerLock_sync hi hwf h1 h2 s t ht
  · exact exec_noNearerLock_linkHost hi s t ht

/-- What a step does to the lock: nothing, or it consumes a marker in SEEK1 or in SEEK2. -/
theorem step_lock_cases {s t : State} (h : step s = .next t) :
    NoNearerLock s.sync t.sync ∨
    (s.sync.rxq.head? = some 0xAA ∧ t.sync.rxq = s.sync.rxq.tail ∧
      ((s.sync.st = 0 ∧ t.sync.st = 1) ∨ (s.sync.st = 1 ∧ t.sync.st = 2))) := by
  obtain ⟨-, ⟨-, -, rfl⟩ | ⟨-, i, hd, he⟩⟩ := step_next h
  · exact .inl (.refl _)
  obtain ⟨hwf, hcode⟩ := encode_of_decode hd
  by_cases h1 : i = .seek1Sync
  · subst h1
    obtain ⟨hst, hq⟩ := of_fetch_eq_tok hcode.symm
    cases he
    exact .inr ⟨hq, rfl, .inl ⟨hst, rfl⟩⟩
  by_cases h2 : i = .seek2Sync
  · subst h2
    obtain ⟨hst, hq⟩ := of_fetch_eq_tok hcode.symm
    cases he
    exact .inr ⟨hq, rfl, .inr ⟨hst, rfl⟩⟩
  exact .inl (exec_noNearerLock hwf h1 h2 s.afterPick t he)

/-- Settles O47: a step that consumes a marker enters SEEK2 from SEEK1 or RS0 from SEEK2; no other enters either state
or consumes a byte in SEEK2 and stays there. -/
theorem lockNeedsTwoMarkers : Obligations.LockNeedsTwoMarkers := by
  intro s t h
  rcases step_lock_cases h with ⟨hrs0, hseek2⟩ | ⟨hq, htail, ⟨hs, ht⟩ | ⟨hs, ht⟩⟩
  · exact ⟨fun hs ht => absurd (hrs0 ht) hs, fun hs ht => absurd (hseek2 ht).1 hs, fun _ ht => (hseek2 ht).2⟩
  · exact ⟨by simp [ht], fun _ _ => ⟨hs, hq, htail⟩, by simp [hs]⟩
  · exact ⟨fun _ _ => ⟨hs, hq, htail⟩, by simp [ht], by simp [ht]⟩

/-! The bytes on their way (R221). -/

/-- From `s` to `t` SYNC has consumed the bytes `eaten` and SEQ has sent the bytes `sent`, and no other byte was lost,
added or reordered. -/
def KeepsBytes (eaten sent : List Byte) (s t : State) : Prop :=
  eaten ++ t.sync.rxq ++ t.link.q = s.sync.rxq ++ s.link.q ++ sent ∧ t.link.sent = s.link.sent ++ sent

/-- Neither queue was touched, nor the log of what was sent. -/
theorem KeepsBytes.of_eq {s t : State} (hy : t.sync.rxq = s.sync.rxq) (hq : t.link.q = s.link.q)
    (hsent : t.link.sent = s.link.sent) : KeepsBytes [] [] s t := by
  simp [KeepsBytes, hy, hq, hsent]

/-- SEQ has sent at most one byte, and SYNC has consumed none. -/
def Sends (s t : State) : Prop := ∃ sent, KeepsBytes [] sent s t ∧ (sent = [] ∨ ∃ b, sent = [b])

theorem Sends.none {s t : State} (hy : t.sync.rxq = s.sync.rxq) (hlink : t.link = s.link) : Sends s t :=
  ⟨[], .of_eq hy (hlink ▸ rfl) (hlink ▸ rfl), .inl rfl⟩

theorem Sends.one {s t : State} (b : Byte) (hy : t.sync.rxq = s.sync.rxq)
    (hlink : t.link = { s.link with q := s.link.q ++ [b], sent := s.link.sent ++ [b] }) : Sends s t :=
  ⟨[b], by simp [KeepsBytes, hy, hlink], .inr ⟨b, rfl⟩⟩

/-- SYNC has consumed at most one byte, and SEQ has sent none. -/
def Consumes (s t : State) : Prop := ∃ eaten, KeepsBytes eaten [] s t ∧ (eaten = [] ∨ ∃ b, eaten = [b])

theorem Consumes.none {s t : State} (hy : t.sync.rxq = s.sync.rxq) (hlink : t.link = s.link) : Consumes s t :=
  ⟨[], .of_eq hy (hlink ▸ rfl) (hlink ▸ rfl), .inl rfl⟩

/-- The head of the receive queue is consumed, if there is one. -/
theorem Consumes.head {s t : State} (hy : t.sync.rxq = s.sync.rxq.tail) (hlink : t.link = s.link) : Consumes s t := by
  cases hq : s.sync.rxq with
  | nil => exact .none (by rw [hy, hq, List.tail_nil]) hlink
  | cons b bs => exact ⟨[b], by simp [KeepsBytes, hy, hlink, hq], .inr ⟨b, rfl⟩⟩

/-- What is fetched from a sequencer state sends at most one byte (R182 to R189). -/
theorem exec_sends {i : Instr} {c : BitVec 8} (hi : encode i = .seq c) (s : State) : Ensures (exec i s) (Sends s) := by
  cases i with
  | initClk | initPin | initPresc | initPwr | initSettle | initMode | initSmp | initSeqlen
  | convSel | convClr | convRead | txEnd | delay => exact .done (.none rfl rfl)
  | initDisChk | initDisWait | initCalWait | initRdyWait | convWait =>
    exact .ite (fun _ => .done (.none rfl rfl)) fun _ => .done (.none rfl rfl)
  | initCal | initEn | convStart => exact .ite (fun _ => .raise (.none rfl rfl)) fun _ => .done (.none rfl rfl)
  | txSync0 =>
    refine .done ?_
    cases s.cfg.tsDev <;> exact .one marker rfl rfl
  | txSync1 => exact .done (.one marker rfl rfl)
  | txLo | txHi => exact .sendSample (fun b => .one b rfl rfl) fun _ => .none rfl rfl
  | txTs0 | txTs1 | txTs2 | txTs3 => exact .sendStamp (fun b => .one b rfl rfl) fun _ => .none rfl rfl
  | _ => cases hi

/-- SYNC's tokens consume the head of the receive queue, its other instructions nothing (R201). -/
theorem exec_consumes {i : Instr} (hi : i.agent = .sync) (s : State) : Ensures (exec i s) (Consumes s) := by
  cases i with
  | seek1Sync | seek1Discard b | seek2Sync | seek2Miss b | rs0Lo b | rs1Hi b
  | rt0B0 b | rt1B1 b | rt2B2 b | rt3B3 b => exact .done (.head rfl rfl)
  | emit => exact .emit (fun v _ => .none rfl s.afterInterval_link) fun _ => .none rfl rfl
  | eosEnd st => exact .ite (fun _ => .done (.none rfl rfl)) fun _ => .hold (.none rfl rfl)
  | ended => exact .hold (.none rfl rfl)
  | _ => cases hi

/-- LINK_DELIVER moves the oldest byte in flight to the end of the receive queue (R215). -/
theorem execLinkDeliver_keepsBytes (s : State) : Ensures (execLinkDeliver s) (KeepsBytes [] [] s) := by
  by_cases hopen : s.link.q = [] ∨ s.link.closed = true
  · rw [execLinkDeliver_disabled hopen]
    exact .hold (.of_eq rfl rfl rfl)
  · obtain ⟨hq, hc⟩ := not_or.1 hopen
    obtain ⟨b, bs, hq⟩ := List.exists_cons_of_ne_nil hq
    rw [execLinkDeliver_of_cons hq (Bool.not_eq_true _ ▸ hc)]
    exact .done (by simp [KeepsBytes, hq])

/-- Every event but a loss, a corruption, an insertion and a session start keeps the bytes; RESET_POR does after the
first, which empties the link (R78, R300). -/
theorem exec_keepsBytes_event {e : Event} {s : State} (hs : s.started = true) (hstart : e ≠ .sessionStart)
    (hdrop : e ≠ .linkDrop) (hcorrupt : e ≠ .linkCorrupt) (hinsert : e ≠ .linkInsert) :
    Ensures (exec (eventInstr e) s) (KeepsBytes [] [] s) := by
  cases e with
  | adcDisDone | adcCalDone | adcReady | adcConvDone | resetWarm =>
    exact .ite (fun _ => .done (.of_eq rfl rfl rfl)) fun _ => .hold (.of_eq rfl rfl rfl)
  | linkClose | hostStop => exact .ite (fun _ => .hold (.of_eq rfl rfl rfl)) fun _ => .done (.of_eq rfl rfl rfl)
  | linkDeliver => exact execLinkDeliver_keepsBytes s
  | resetPor => exact .done (.of_eq (by simp [hs]) (by simp [hs]) (by simp [hs]))
  | sessionStart => exact absurd rfl hstart
  | linkDrop => exact absurd rfl hdrop
  | linkCorrupt => exact absurd rfl hcorrupt
  | linkInsert => exact absurd rfl hinsert

/-- SYNC's pick fetches an instruction of SYNC's (R107, R109). -/
theorem agent_of_fetch_sync {s : State} {i : Instr} (h : decode (s.fetch .sync) = .ok i) : i.agent = .sync := by
  obtain ⟨-, hcode⟩ := encode_of_decode h
  have hformat : Laws.AgentFormat.Statement i := Laws.AgentFormat.agent_of_format i
  obtain hf | ⟨b, -, -, hf⟩ := fetch_sync_cases s <;>
    simpa only [Laws.AgentFormat.Statement, hcode, hf] using hformat

/-- Settles O60: SEQ's pick sends, SYNC's consumes, and the events that are left keep the bytes. -/
theorem faithfulLinkKeepsTheBytes : Obligations.FaithfulLinkKeepsTheBytes := by
  intro s t h hs hstart hdrop hcorrupt hinsert
  obtain ⟨-, ⟨-, hs', -⟩ | ⟨-, i, hd, he⟩⟩ := step_next h
  · simp [hs] at hs'
  cases hp : s.pick with
  | seq =>
    rw [hp] at hd
    obtain ⟨sent, ⟨hbytes, hsent⟩, hone⟩ := exec_sends (encode_of_decode hd).2 s.afterPick t he
    exact ⟨[], sent, hbytes, hsent, .inl rfl, hone.imp_right fun h => ⟨rfl, h⟩⟩
  | sync =>
    rw [hp] at hd
    obtain ⟨eaten, ⟨hbytes, hsent⟩, hone⟩ := exec_consumes (agent_of_fetch_sync hd) s.afterPick t he
    exact ⟨eaten, [], hbytes, hsent, hone.imp_right fun h => ⟨rfl, h⟩, .inl rfl⟩
  | evt e =>
    simp only [hp, ne_eq, Pick.evt.injEq] at hstart hdrop hcorrupt hinsert
    obtain rfl : eventInstr e = i := by simpa [hp, State.fetch] using hd
    obtain ⟨hbytes, hsent⟩ := exec_keepsBytes_event (s := s.afterPick) hs hstart hdrop hcorrupt hinsert t he
    exact ⟨[], [], hbytes, hsent, .inl rfl, .inl rfl⟩

end Sys2Proof.Machine
end

section
/-! Proof of the statement about a frame met in SEEK1 (R102, R104, R201 to R211, R214, R230): the bytes of a sample and
of a timestamp put together again, SYNC moving alone, and the frame it reads. -/

namespace Sys2Proof.Machine

/-! The bytes put together again (R101, R102). -/

/-- The two bytes of a sample, the low one first, give it back. -/
theorem sample_of_bytes (v : U16) : sampleSetHi (sampleFromLo (sampleLo v)) (sampleHi v) = v := by
  apply BitVec.eq_of_toNat_eq
  simp only [toNat_sampleSetHi, sampleFromLo, sampleLo, sampleHi, BitVec.toNat_setWidth, toNat_extractLsb'_eq_div_mod]
  omega

/-- The four bytes of a timestamp, the least significant first, give it back. -/
theorem stamp_of_bytes (t : U32) :
    stampSetByte3 (stampSetByte2 (stampSetByte1 (stampFromByte0 (stampByte0 t)) (stampByte1 t)) (stampByte2 t))
      (stampByte3 t) = t := by
  apply BitVec.eq_of_toNat_eq
  simp only [toNat_stampSetByte1, toNat_stampSetByte2, toNat_stampSetByte3, stampFromByte0, stampByte0, stampByte1,
    stampByte2, stampByte3, BitVec.toNat_setWidth, toNat_extractLsb'_eq_div_mod]
  omega

/-! EMIT with everything written (R230). -/

@[simp] theorem State.afterInterval_faults (s : State) : s.afterInterval.faults = s.faults := by
  unfold State.afterInterval; split <;> rfl

theorem execEmit_of_written {s : State} {v : U16} (hv : s.sync.accS = some v)
    (ht : s.cfg.tsHost = true → s.sync.accT.isSome = true) :
    execEmit s = done (s.afterInterval.withSync (emitted s.cfg s.sync v s.interval)) := by
  have hwritten : emitUnwritten s = none := by
    cases hts : s.cfg.tsHost with
    | false => simp [emitUnwritten, hv, hts]
    | true => simp [emitUnwritten, hv, Option.isSome_iff_ne_none.1 (ht hts)]
  simp only [execEmit, hwritten, hv, Option.getD_some]

/-! SYNC moving alone (R11). -/

/-- SYNC's step from a state of the model is the instruction it fetches. -/
theorem step_sync {s : State} {i : Instr} (ho : s.outside = none) (hp : s.pick = .sync)
    (hd : decode (s.fetch .sync) = .ok i) : step s = exec i s.afterPick := by
  rw [step_of_inside ho, hp]
  exact runPick_of_decode nofun hd

/-! The frame (R201 to R211): SYNC reads it one byte a step. -/

/-- `s` after SYNC alone has consumed bytes: SYNC stands at `st` with the bytes `bs` to consume and the accumulators `a`
and `t`. Of the rest only the next choices `e` and the outcome `l` of the last step may have changed. -/
def State.readTo (s : State) (st : BitVec 4) (bs : List Byte) (a : Option U16) (t : Option U32) (e : Env)
    (l : StepOutcome) : State :=
  { s with sync := { s.sync with st := st, rxq := bs, accS := a, accT := t }, env := e, last := l }

/-- From `s`, `k` steps of SYNC alone lead to `st`, `bs`, `a` and `t` (`State.readTo`), a state of the model, and the
next picks are `n` of SYNC's and then `ps`. -/
def Reads (s : State) (ps : List Pick) (k n : Nat) (st : BitVec 4) (bs : List Byte) (a : Option U16)
    (t : Option U32) : Prop :=
  ∃ e l, Host.Core.run core k s = .next (s.readTo st bs a t e l) ∧ (s.readTo st bs a t e l).outside = none ∧
    e.picks = List.replicate n .sync ++ ps

section
variable {s : State} {ps : List Pick} {k n : Nat} {st : BitVec 4} {b : Byte} {bs : List Byte} {a : Option U16}
  {t : Option U32} {v : U16} {ts : U32}

theorem reads_start (ho : s.outside = none) (hp : s.env.picks = List.replicate n .sync ++ ps) :
    Reads s ps 0 n s.sync.st s.sync.rxq s.sync.accS s.sync.accT :=
  ⟨s.env, s.last, rfl, ho, hp⟩

/-- The next step is the instruction SYNC fetches. -/
theorem Reads.run_exec {i : Instr} (h : Reads s ps k (n + 1) st bs a t)
    (hd : ∀ e l, decode ((s.readTo st bs a t e l).fetch .sync) = .ok i) : ∃ e l,
      (s.readTo st bs a t e l).outside = none ∧ e.picks = List.replicate n .sync ++ ps ∧
      ∀ u, exec i (s.readTo st bs a t e l) = .next u → Host.Core.run core (k + 1) s = .next u := by
  obtain ⟨e, l, hrun, ho, hpicks⟩ := h
  have hpick : (s.readTo st bs a t e l).pick = .sync := by
    rw [State.pick, State.readTo, hpicks]
    rfl
  refine ⟨{ e with picks := e.picks.tail, tick := e.tick + 1 }, l, ho, ?_, fun u hu => ?_⟩
  · rw [hpicks]
    rfl
  · exact run_snoc hrun ((step_sync ho hpick (hd e l)).trans hu)

/-- A step that consumes a byte. -/
theorem Reads.token {i : Instr} {st' : BitVec 4} {a' : Option U16} {t' : Option U32}
    (h : Reads s ps k (n + 1) st (b :: bs) a t) (hst : st.toNat < 8) (hd : decodeTok (tokenOf st b) = .ok i)
    (hlisted : listedSt st' = true)
    (he : ∀ e l, exec i (s.readTo st (b :: bs) a t e l) = done (s.readTo st' bs a' t' e l)) :
    Reads s ps (k + 1) n st' bs a' t' := by
  have hfetch (e : Env) (l : StepOutcome) : (s.readTo st (b :: bs) a t e l).fetch .sync = .tok (tokenOf st b) :=
    fetch_sync_consuming rfl hst
  obtain ⟨e, l, ho, hpicks, hrun⟩ := h.run_exec (i := i) fun e l => hfetch e l ▸ hd
  obtain ⟨hwf, hpc, -⟩ := (outside_eq_none_iff _).1 ho
  exact ⟨e, .next, hrun _ (he e l), (outside_eq_none_iff _).2 ⟨hwf, hpc, hlisted⟩, hpicks⟩

theorem Reads.seek1Sync (h : Reads s ps k (n + 1) 0 (marker :: bs) a t) : Reads s ps (k + 1) n 1 bs a t :=
  h.token (by decide) (decodeTok_tokenOf 0 marker) rfl fun _ _ => rfl

theorem Reads.seek2Sync (h : Reads s ps k (n + 1) 1 (marker :: bs) a t) : Reads s ps (k + 1) n 2 bs a t :=
  h.token (by decide) (decodeTok_tokenOf 1 marker) rfl fun _ _ => rfl

theorem Reads.rs0Lo (h : Reads s ps k (n + 1) 2 (b :: bs) a t) :
    Reads s ps (k + 1) n 3 bs (some (sampleFromLo b)) t :=
  h.token (by decide) (decodeTok_tokenOf 2 b) rfl fun _ _ => rfl

theorem Reads.rs1Hi (h : Reads s ps k (n + 1) 3 (b :: bs) (some v) t) :
    Reads s ps (k + 1) n (if s.cfg.tsHost then 4 else 8) bs (some (sampleSetHi v b)) t :=
  h.token (by decide) (decodeTok_tokenOf 3 b) (by cases s.cfg.tsHost <;> rfl) fun _ _ => execRs1Hi_of_some rfl b

theorem Reads.rt0B0 (h : Reads s ps k (n + 1) 4 (b :: bs) a t) :
    Reads s ps (k + 1) n 5 bs a (some (stampFromByte0 b)) :=
  h.token (by decide) (decodeTok_tokenOf 4 b) rfl fun _ _ => rfl

theorem Reads.rt1B1 (h : Reads s ps k (n + 1) 5 (b :: bs) a (some ts)) :
    Reads s ps (k + 1) n 6 bs a (some (stampSetByte1 ts b)) :=
  h.token (by decide) (decodeTok_tokenOf 5 b) rfl fun _ _ => execRt1B1_of_some rfl b

theorem Reads.rt2B2 (h : Reads s ps k (n + 1) 6 (b :: bs) a (some ts)) :
    Reads s ps (k + 1) n 7 bs a (some (stampSetByte2 ts b)) :=
  h.token (by decide) (decodeTok_tokenOf 6 b) rfl fun _ _ => execRt2B2_of_some rfl b

theorem Reads.rt3B3 (h : Reads s ps k (n + 1) 7 (b :: bs) a (some ts)) :
    Reads s ps (k + 1) n 8 bs a (some (stampSetByte3 ts b)) :=
  h.token (by decide) (decodeTok_tokenOf 7 b) rfl fun _ _ => execRt3B3_of_some rfl b

/-- The two markers and the sample. -/
theorem Reads.sample (h : Reads s ps k (n + 4) 0 (frameBytes v ++ bs) a t) :
    Reads s ps (k + 4) n (if s.cfg.tsHost then 4 else 8) bs (some v) t := by
  rw [frameBytes_eq] at h
  have hread := h.seek1Sync.seek2Sync.rs0Lo.rs1Hi
  rwa [sample_of_bytes] at hread

/-- The timestamp. -/
theorem Reads.stamp (h : Reads s ps k (n + 4) 4 (stampBytes ts ++ bs) a t) :
    Reads s ps (k + 4) n 8 bs a (some ts) := by
  rw [stampBytes_eq] at h
  have hread := h.rt0B0.rt1B1.rt2B2.rt3B3
  rwa [stamp_of_bytes] at hread

/-- EMIT appends the record of the sample, with the timestamp's interval in timestamp mode, and leaves SYNC in SEEK1. -/
theorem Reads.emit (h : Reads s ps k (n + 1) 8 bs (some v) t) (hstop : s.sync.stop = false)
    (ht : s.cfg.tsHost = true → t = some ts) :
    ∃ u o, Host.Core.run core (k + 1) s = .next u ∧ u.sync.st = 0 ∧ u.sync.rxq = bs ∧
      u.sync.out = s.sync.out ++ [o] ∧ o.sample = v ∧ u.faults = s.faults ∧
      (s.cfg.tsHost = true →
        u.sync.rbuf = s.sync.rbuf.set s.sync.rcur (some ((ts.toNat : Rat) / 1000000))) := by
  have hfetch (e : Env) (l : StepOutcome) : (s.readTo 8 bs (some v) t e l).fetch .sync = .syncInt 8 :=
    fetch_sync_without_byte (.inr (Nat.le_refl 8))
  obtain ⟨e, l, -, -, hrun⟩ := h.run_exec (i := .emit) fun e l => hfetch e l ▸ rfl
  have hemit := execEmit_of_written (s := s.readTo 8 bs (some v) t e l) rfl fun hts => by simp [State.readTo, ht hts]
  refine ⟨_, _, hrun _ hemit, ?_, rfl, rfl, rfl, ?_, fun hts => ?_⟩
  · simp [State.readTo, emitted, hstop]
  · simp [State.readTo]
  · simp [State.readTo, emitted, rateRecord, State.interval, hts, ht hts, stampSeconds]

end

/-- Settles O58: SYNC reads the frame's sample, in timestamp mode its timestamp, and emits. -/
theorem alignedFrameDecodesExactly : Obligations.AlignedFrameDecodesExactly := by
  refine fun s v ts bs ps ho hst hstop => ⟨fun hts hq hp => ?_, fun hts hq hp => ?_⟩
  · have h := reads_start ho hp
    rw [hst, hq] at h
    have hread := h.sample
    simp only [hts] at hread
    obtain ⟨u, o, hrun, hst, hq, hout, hv, hf, -⟩ := hread.emit (ts := ts) hstop (by simp [hts])
    exact ⟨u, o, hrun, hst, hq, hout, hv, hf⟩
  · have h := reads_start ho hp
    rw [hst, hq, List.append_assoc] at h
    have hread := h.sample
    simp only [hts] at hread
    obtain ⟨u, o, hrun, hst, hq, hout, hv, hf, hbuf⟩ := hread.stamp.emit hstop fun _ => rfl
    exact ⟨u, o, hrun, hst, hq, hout, hv, hbuf hts, hf⟩

end Sys2Proof.Machine
end

section
/-! Proof of the statement about the rate estimator (R239): every instruction but EMIT and SESSION_START, which write
it, takes the state without the estimator to its next state without the estimator. -/

namespace Sys2Proof.Machine

/-- What an instruction answers, without the rate estimator and the recorded rates. -/
def eraseRate : Result → Result
  | .next t => .next t.withoutRate
  | r => r

theorem State.withoutRate_idem (s : State) : s.withoutRate.withoutRate = s.withoutRate := by
  simp [State.withoutRate, Function.comp_def]

/-- SYNC's part of `State.withoutRate`. -/
def Sync.withoutRate (y : Sync) : Sync :=
  { y with rbuf := [], rcur := 0, rate := none, out := y.out.map (fun (o : OutRec) => { o with rate := none }) }

theorem State.withoutRate_sync (s : State) : s.withoutRate.sync = s.sync.withoutRate := rfl

/-- The samples, the axis and the x of a record that EMIT writes are not made of the estimator. -/
theorem emitted_withoutRate (c : Config) (y : Sync) (v : U16) (d : Rat) :
    (emitted c y.withoutRate v d).withoutRate = (emitted c y v d).withoutRate := by
  have hout : (emitted c y.withoutRate v d).withoutRate.out = (emitted c y v d).withoutRate.out := by
    simp [emitted, Sync.withoutRate, Function.comp_def]
  exact congrArg (fun os => { (emitted c y v d).withoutRate with out := os }) hout

theorem eraseRate_idem (r : Result) : eraseRate (eraseRate r) = eraseRate r := by
  cases r with
  | next t => exact congrArg Host.Outcome.next t.withoutRate_idem
  | fault f => rfl
  | refused f => rfl

theorem ite_eq_eraseRate {p : Prop} [Decidable p] {r₁ r₂ r₁' r₂' : Result} (h₁ : r₁' = eraseRate r₁)
    (h₂ : r₂' = eraseRate r₂) : (if p then r₁' else r₂') = eraseRate (if p then r₁ else r₂) := by
  rw [apply_ite eraseRate, h₁, h₂]

theorem sendSample_withoutRate (field : U16 → Byte) (code succ : BitVec 8) (s : State) :
    sendSample field code succ s.withoutRate = eraseRate (sendSample field code succ s) := by
  have hv : s.withoutRate.seq.v = s.seq.v := rfl
  unfold sendSample
  rw [hv]
  cases s.seq.v <;> rfl

theorem sendStamp_withoutRate (field : U32 → Byte) (code succ : BitVec 8) (s : State) :
    sendStamp field code succ s.withoutRate = eraseRate (sendStamp field code succ s) := by
  have hts : s.withoutRate.seq.ts = s.seq.ts := rfl
  unfold sendStamp
  rw [hts]
  cases s.seq.ts <;> rfl

theorem execLinkDeliver_withoutRate (s : State) :
    execLinkDeliver s.withoutRate = eraseRate (execLinkDeliver s) := by
  have hq : s.withoutRate.link.q = s.link.q := rfl
  unfold execLinkDeliver
  rw [hq]
  cases s.link.q with
  | cons b bs => exact ite_eq_eraseRate rfl rfl
  | nil => rfl

/-- No instruction but the two that write the estimator touches it or reads it. -/
theorem exec_withoutRate {i : Instr} (hemit : i ≠ .emit) (hstart : i ≠ .sessionStart) (s : State) :
    exec i s.withoutRate = eraseRate (exec i s) := by
  have hcfg : s.withoutRate.cfg = s.cfg := rfl
  have hstarted : s.withoutRate.started = s.started := rfl
  cases i with
  | initClk | initPin | initPresc | initPwr | initSettle | initMode | initSmp | initSeqlen
  | convSel | convClr | convRead | txSync1 | txEnd | delay
  | seek1Sync | seek1Discard b | seek2Sync | seek2Miss b | rs0Lo b | rs1Hi b
  | rt0B0 b | rt1B1 b | rt2B2 b | rt3B3 b | ended => rfl
  | initDisChk | initDisWait | initCal | initCalWait | initEn | initRdyWait | convStart | convWait
  | eosEnd st | adcDisDone | adcCalDone | adcReady | adcConvDone
  | linkDrop | linkCorrupt | linkInsert | linkClose | hostStop | resetWarm => exact ite_eq_eraseRate rfl rfl
  | txSync0 =>
    simp only [exec, execTxSync0, hcfg]
    cases s.cfg.tsDev <;> rfl
  | txLo | txHi => exact sendSample_withoutRate _ _ _ s
  | txTs0 | txTs1 | txTs2 | txTs3 => exact sendStamp_withoutRate _ _ _ s
  | linkDeliver => exact execLinkDeliver_withoutRate s
  | resetPor =>
    simp only [exec, execResetPor, hstarted]
    cases s.started <;> rfl
  | emit => exact absurd rfl hemit
  | sessionStart => exact absurd rfl hstart

/-- A session starts with the estimator of the configuration, whatever it was. -/
theorem eraseRate_execSessionStart (s : State) :
    eraseRate (execSessionStart s.withoutRate) = eraseRate (execSessionStart s) := by
  have hst : s.withoutRate.sync.st = s.sync.st := rfl
  unfold execSessionStart
  rw [hst]
  split
  · rfl
  · exact eraseRate_idem (hold .host s)

theorem State.afterInterval_withoutRate (s : State) : s.withoutRate.afterInterval = s.afterInterval.withoutRate :=
  (apply_ite State.withoutRate _ s s.afterWall).symm

theorem eraseRate_execEmit (s : State) : eraseRate (execEmit s.withoutRate) = eraseRate (execEmit s) := by
  have hf : emitUnwritten s.withoutRate = emitUnwritten s := rfl
  unfold execEmit
  rw [hf]
  cases emitUnwritten s with
  | some f => exact eraseRate_idem (raise _ s)
  | none =>
    have hy := emitted_withoutRate s.cfg s.sync (s.sync.accS.getD 0) s.interval
    rw [State.afterInterval_withoutRate, State.withoutRate_sync]
    exact congrArg (fun y => Host.Outcome.next { s.afterInterval.withSync y with last := .next }) hy

/-- The estimator goes into nothing but itself and the recorded rates. -/
theorem eraseRate_exec_withoutRate (i : Instr) (s : State) :
    eraseRate (exec i s.withoutRate) = eraseRate (exec i s) := by
  by_cases hemit : i = .emit
  · exact hemit ▸ eraseRate_execEmit s
  by_cases hstart : i = .sessionStart
  · exact hstart ▸ eraseRate_execSessionStart s
  rw [exec_withoutRate hemit hstart, eraseRate_idem]

/-- Settles O36: two states that differ only in the estimator are the same without it, and each steps as it does
without it. -/
theorem rateNeverAffectsDecoding : Obligations.RateNeverAffectsDecoding := by
  intro i s t s' t' hst hs ht
  have h : eraseRate (exec i s) = eraseRate (exec i t) := by
    rw [← eraseRate_exec_withoutRate i s, hst, eraseRate_exec_withoutRate i t]
  rw [hs, ht] at h
  exact Host.Outcome.next.inj h

end Sys2Proof.Machine
end

section
/-! Proofs of the statements about the History Buffer (R231 to R233, R243): its entries one by one, and the window
after any number of samples. -/

namespace Sys2Proof.Machine

/-! The sliding window and the time axis, entry by entry (R231, R233). -/

theorem getElem?_histPush_older {ys : List (Option U16)} (v : U16) {i : Nat} (hi : i + 1 < ys.length) :
    (histPush ys v)[i]? = ys[i + 1]? := by
  rw [histPush, List.getElem?_append_left (by rw [List.length_drop]; omega), List.getElem?_drop, Nat.add_comm]

theorem histPush_newest {ys : List (Option U16)} (v : U16) : (histPush ys v)[ys.length - 1]? = some (some v) := by
  rw [histPush, List.getElem?_append_right (by simp)]
  simp

theorem getElem?_xShift_older {xs : List Rat} (d : Rat) {i : Nat} {x : Rat} (hx : xs[i + 1]? = some x) :
    (xShift xs d)[i]? = some (x - d) := by
  obtain ⟨hi, -⟩ := List.getElem?_eq_some_iff.1 hx
  rw [xShift, List.getElem?_append_left (by rw [List.length_map, List.length_drop]; omega), List.getElem?_map,
    List.getElem?_drop, Nat.add_comm, hx]
  rfl

/-- Settles O31: the entry of each place is that of the place before it, the newest is the pushed one, and the axis
moves in timestamp mode with a time axis alone. -/
theorem historyShiftsByOne : Obligations.HistoryShiftsByOne := by
  refine ⟨fun ys s hys => ⟨length_histPush s (List.length_pos_iff.2 hys), fun i => getElem?_histPush_older s,
    histPush_newest s⟩, fun c xs d => ⟨fun hts hx hxs => ?_, fun hfixed => xUpdate_fixed ?_ xs d⟩⟩
  · rw [xUpdate_timed ⟨hts, hx⟩]
    exact ⟨length_xShift d (List.length_pos_iff.2 hxs), fun i x => getElem?_xShift_older d, xShift_newest xs d⟩
  · rintro ⟨hts, hx⟩
    simp [hts, hx] at hfixed

/-! The window after any number of samples (R243). -/

/-- Pushing the next entry of a list moves the window on it by one. -/
theorem histPush_drop {l : List (Option U16)} {k : Nat} (hk : k < l.length) (v : U16) :
    histPush (l.drop k) v = (l ++ [some v]).drop (k + 1) := by
  rw [histPush, List.drop_drop, List.drop_append_of_le_length hk]

theorem foldl_histPush {n : Nat} (hn : 1 ≤ n) (vs : List U16) :
    vs.foldl histPush (List.replicate n none) = (List.replicate n none ++ vs.map some).drop vs.length := by
  induction vs using List.reverseRecOn with
  | nil => simp
  | append_singleton vs v ih =>
    rw [List.foldl_append, List.foldl_cons, List.foldl_nil, ih, histPush_drop (by simp; omega)]
    simp

/-- With no more samples than places the window still has the sentinels of the places left. -/
theorem foldl_histPush_of_length_le {n : Nat} (hn : 1 ≤ n) {vs : List U16} (h : vs.length ≤ n) :
    vs.foldl histPush (List.replicate n none) = List.replicate (n - vs.length) none ++ vs.map some := by
  rw [foldl_histPush hn, List.drop_append_of_le_length (by simpa using h), List.drop_replicate]

/-- With no fewer samples than places only the last samples are left. -/
theorem foldl_histPush_of_le_length {n : Nat} (hn : 1 ≤ n) {vs : List U16} (h : n ≤ vs.length) :
    vs.foldl histPush (List.replicate n none) = (vs.drop (vs.length - n)).map some := by
  rw [foldl_histPush hn, List.drop_append, List.drop_eq_nil_of_le (by simpa using h), List.length_replicate,
    List.nil_append, List.map_drop]

/-- An EMIT whose accumulators are written pushes its sample. -/
theorem histY_of_emit {s t : State} {v : U16} (hv : s.sync.accS = some v)
    (ht : s.cfg.tsHost = true → s.sync.accT ≠ none) (h : exec .emit s = .next t) :
    t.sync.histY = histPush s.sync.histY v := by
  obtain rfl := Host.Outcome.next.inj
    ((execEmit_of_written hv fun hts => Option.isSome_iff_ne_none.2 (ht hts)).symm.trans h)
  rfl

/-- The buffers of a session's start, where one starts (R302). -/
theorem sync_of_sessionStart {s t : State} (hst : s.sync.st = 9) (h : exec .sessionStart s = .next t) :
    t.sync = Sync.sessionStart s.cfg := by
  obtain rfl := Host.Outcome.next.inj ((if_pos (by simp [hst])).symm.trans h)
  rfl

/-- After the EMITs `e 0 → f 0`, ..., `e k → f k` of one session the window is the sentinels with the samples pushed
onto them. -/
theorem histY_after_emits {c : Config} {k : Nat} {s0 s1 : State} {e f : Nat → State} {v : Nat → U16}
    (hcfg : s0.cfg = c) (hst : s0.sync.st = 9) (hstart : exec .sessionStart s0 = .next s1)
    (hfirst : (e 0).sync.histY = s1.sync.histY)
    (hemit : ∀ j, j ≤ k → (e j).cfg = c ∧ (e j).sync.accS = some (v j) ∧
      (c.tsHost = true → (e j).sync.accT ≠ none) ∧ exec .emit (e j) = .next (f j))
    (hkept : ∀ j, j < k → (e (j + 1)).sync.histY = (f j).sync.histY) :
    (f k).sync.histY = ((List.range (k + 1)).map v).foldl histPush (List.replicate c.histN none) := by
  have hpush (j : Nat) (hj : j ≤ k) : (f j).sync.histY = histPush (e j).sync.histY (v j) := by
    obtain ⟨hc, hs, ht, he⟩ := hemit j hj
    exact histY_of_emit hs (hc ▸ ht) he
  induction k with
  | zero =>
    rw [hpush 0 le_rfl, hfirst, sync_of_sessionStart hst hstart, hcfg]
    rfl
  | succ k ih =>
    have hk := ih (fun j hj => hemit j (by omega)) (fun j hj => hkept j (by omega)) (fun j hj => hpush j (by omega))
    rw [hpush (k + 1) le_rfl, hkept k (by omega), hk, List.range_succ (n := k + 1), List.map_append, List.foldl_append]
    rfl

/-- Settles O32: the EMITs of a session push their samples, and pushing onto the sentinels keeps the newest entries. -/
theorem evictionKeepsTheNewest : Obligations.EvictionKeepsTheNewest := by
  refine ⟨fun c k s0 s1 e f v hn hcfg hst hstart hfirst hemit hkept => ?_, fun n vs hn =>
    ⟨foldl_histPush hn vs, foldl_histPush_of_length_le hn, foldl_histPush_of_le_length hn⟩⟩
  rw [histY_after_emits hcfg hst hstart hfirst hemit hkept]
  refine ⟨?_, fun hk => ?_, fun hk => ?_⟩
  · simp [foldl_histPush hn]
  · rw [foldl_histPush_of_length_le hn (by simpa using hk)]
    simp
  · rw [foldl_histPush_of_le_length hn (by simpa using hk)]
    apply List.ext_getElem
    · simp
      omega
    · simp

end Sys2Proof.Machine
end

section
/-! Proofs of the statements about EMIT in both modes (R230 to R240): what `execEmit_of_written` says where the interval is
the timestamp and where it is a wall-clock draw. -/

namespace Sys2Proof.Machine

/-- With TS_HOST the interval is the timestamp and nothing is drawn (R235). -/
theorem exec_emit_stamp {s : State} {v : U16} {t : U32} (hv : s.sync.accS = some v) (hts : s.cfg.tsHost = true)
    (ht : s.sync.accT = some t) :
    exec .emit s = done (s.withSync (emitted s.cfg s.sync v (stampSeconds t))) := by
  have hsame : s.afterInterval = s := if_pos hts
  have hd : s.interval = stampSeconds t := by simp [State.interval, hts, ht]
  have hemit := execEmit_of_written hv fun _ => Option.isSome_of_eq_some ht
  rwa [hsame, hd] at hemit

/-- Without TS_HOST the interval is drawn from the wall clock (R235). -/
theorem exec_emit_wall {s : State} {v : U16} (hv : s.sync.accS = some v) (hts : s.cfg.tsHost = false) :
    exec .emit s = done (s.afterWall.withSync (emitted s.cfg s.sync v s.wallElapsed)) := by
  have hdrawn : s.afterInterval = s.afterWall := if_neg (by simp [hts])
  have hd : s.interval = s.wallElapsed := if_neg (by simp [hts])
  have hemit := execEmit_of_written hv (by simp [hts])
  rwa [hdrawn, hd] at hemit

theorem nonNegative_nonneg (d : Rat) : 0 ≤ nonNegative d := by
  unfold nonNegative
  split
  · assumption
  · exact le_rfl

/-- A legal draw of the wall clock is the interval (log 2). -/
theorem wallElapsed_of_legal {s : State} {w : Rat} {ws : List Rat} (hw : s.env.wall = w :: ws) (h : 0 ≤ w) :
    s.wallElapsed = w := by
  simp [State.wallElapsed, hw, nonNegative, h]

/-- Settles O29: the interval is the timestamp, and the axis it moves is a time axis alone. -/
theorem emitWithTimestamps : Obligations.EmitWithTimestamps := by
  rintro s v t hv hts ht _ _ rfl rfl
  have hx : (if s.cfg.xunit = .time then (s.sync.histX.drop 1).map (fun x => x - (t.toNat : Rat) / 1000000) ++ [0]
      else s.sync.histX) = xUpdate s.cfg s.sync.histX (stampSeconds t) := by
    simp [xUpdate, hts, xShift, stampSeconds]
  rw [exec_emit_stamp hv hts ht, hx]
  rfl

/-- Settles O30: the interval is the draw, and without timestamps no axis moves. -/
theorem emitWithWallClock : Obligations.EmitWithWallClock := by
  intro s v hv hts
  refine ⟨s.wallElapsed, nonNegative_nonneg _, fun w ws => wallElapsed_of_legal, ?_⟩
  rintro _ rfl
  have hx : xUpdate s.cfg s.sync.histX s.wallElapsed = s.sync.histX := xUpdate_fixed (by simp [hts]) _ _
  rw [exec_emit_wall hv hts]
  simp only [done, emitted, hx]
  rfl

end Sys2Proof.Machine
end

section
/-! Proofs of the statements about the Rate Estimator (R237, R238, R244): the estimate, the ring of intervals, and
the rate of two timestamps. -/

namespace Sys2Proof.Machine

/-! The estimate (R238). -/

theorem length_rateEntries (buf : List (Option Rat)) : (rateEntries buf).length = buf.countP Option.isSome :=
  List.length_filterMap_eq_countP

/-- The sum of the recorded intervals, a sentinel counted as 0. -/
theorem rateSum_eq_sum (buf : List (Option Rat)) : rateSum buf = (buf.map (fun d => d.getD 0)).sum := by
  induction buf with
  | nil => rfl
  | cons d buf ih =>
    rw [List.map_cons, List.sum_cons, ← ih]
    cases d with
    | none => exact (zero_add _).symm
    | some d => rfl

/-- Settles O33: the count and the sum of the recorded intervals, taken over the whole buffer. -/
theorem rateIsReciprocalOfMean : Obligations.RateIsReciprocalOfMean := by
  intro buf
  rw [rateEstimate, length_rateEntries, rateSum_eq_sum]

/-! The ring of intervals (R237). -/

/-- One interval recorded: the slot written and the cursor moved on. -/
def recordInterval (c : Config) (q : List (Option Rat) × Nat) (d : Rat) : List (Option Rat) × Nat :=
  (rateRecord q.1 q.2 d, rateNext c q.2)

/-- What a ring of `m` slots holds after the intervals `ds`: each of the last `m` of them at its index modulo `m`. -/
structure RingHolds (m : Nat) (ds : List Rat) (q : List (Option Rat) × Nat) : Prop where
  size   : q.1.length = m
  cursor : q.2 = ds.length % m
  slots  : ∀ j, j < ds.length → ds.length ≤ j + m → q.1[j % m]? = some ds[j]?

theorem ringHolds_start (m : Nat) : RingHolds m [] (List.replicate m none, 0) where
  size := List.length_replicate
  cursor := (Nat.zero_mod m).symm
  slots := nofun

/-- The slot written holds no interval less than `M` back: two such indices differ modulo `M`. -/
theorem RingHolds.record {c : Config} (hm : 1 ≤ c.rateM) {ds : List Rat} {q : List (Option Rat) × Nat}
    (h : RingHolds c.rateM ds q) (d : Rat) : RingHolds c.rateM (ds ++ [d]) (recordInterval c q d) where
  size := List.length_set.trans h.size
  cursor := by simp [recordInterval, rateNext, h.cursor]
  slots j hj hlast := by
    rw [List.length_append, List.length_singleton] at hj hlast
    show (q.1.set q.2 (some d))[j % c.rateM]? = _
    rcases Nat.lt_succ_iff_lt_or_eq.1 hj with hj | rfl
    · have hne : ds.length % c.rateM ≠ j % c.rateM := by
        intro heq
        have hdvd : c.rateM ∣ ds.length - j := (Nat.modEq_iff_dvd' hj.le).1 heq.symm
        have hle := Nat.le_of_dvd (by omega) hdvd
        omega
      rw [h.cursor, List.getElem?_set_ne hne, h.slots j hj (by omega), List.getElem?_append_left hj]
    · rw [h.cursor, List.getElem?_set_self (by rw [h.size]; exact Nat.mod_lt _ hm)]
      simp

theorem ringHolds_foldl {c : Config} (hm : 1 ≤ c.rateM) (ds : List Rat) :
    RingHolds c.rateM ds (ds.foldl (recordInterval c) (List.replicate c.rateM none, 0)) := by
  induction ds using List.reverseRecOn with
  | nil => exact ringHolds_start _
  | append_singleton ds d ih =>
    rw [List.foldl_append]
    exact ih.record hm d

/-- Settles O34, by induction on the intervals from the last one. -/
theorem rateBufferWraps : Obligations.RateBufferWraps := by
  rintro _ ds hm c rfl _ rfl
  obtain ⟨hsize, hcursor, hslots⟩ := ringHolds_foldl hm ds
  exact ⟨hsize, hcursor, hslots⟩

/-! Two timestamps (R244). -/

/-- The first two intervals of a session stand in the first two slots. -/
theorem rateRecord_two {c : Config} (hm : 2 ≤ c.rateM) (a b : Rat) :
    rateRecord (rateRecord (List.replicate c.rateM none) 0 a) (rateNext c 0) b =
      some a :: some b :: List.replicate (c.rateM - 2) none := by
  obtain ⟨m, hm⟩ := Nat.exists_eq_add_of_le' hm
  simp [rateRecord, rateNext, hm, List.replicate_succ]

theorem rateEntries_two (a b : Rat) (n : Nat) : rateEntries (some a :: some b :: List.replicate n none) = [a, b] := by
  simp [rateEntries]

theorem rateSum_two (a b : Rat) (n : Nat) : rateSum (some a :: some b :: List.replicate n none) = a + b := by
  simp [rateSum, rateEntries_two]

theorem rateEstimate_two {a b : Rat} (h : a + b ≠ 0) (n : Nat) :
    rateEstimate (some a :: some b :: List.replicate n none) = some (2 / (a + b)) := by
  simp [rateEstimate, rateEntries_two, rateSum_two, h]

/-- What EMIT makes of the Rate Estimator in timestamp mode, drawing nothing. -/
theorem exists_emit_stamp {s : State} {v : U16} {t : U32} (hv : s.sync.accS = some v) (hts : s.cfg.tsHost = true)
    (ht : s.sync.accT = some t) :
    ∃ s', exec .emit s = .next s' ∧ s'.env = s.env ∧ s'.cfg = s.cfg ∧
      s'.sync.rbuf = rateRecord s.sync.rbuf s.sync.rcur (stampSeconds t) ∧
      s'.sync.rcur = rateNext s.cfg s.sync.rcur ∧ s'.sync.rate = rateEstimate s'.sync.rbuf :=
  ⟨_, exec_emit_stamp hv hts ht, rfl, rfl, rfl, rfl, rfl⟩

/-- Settles O35: the two timestamps in seconds stand in the first two slots, and the estimate is of these two. -/
theorem timestampAccounting : Obligations.TimestampAccounting := by
  intro s0 s1 s u v w hst hstart hcfg hts hm hbuf hcur hv ht
  have h1 : stampSeconds 10000 = 1 / 100 := by
    rw [stampSeconds, show (10000 : U32).toNat = 10000 from rfl]
    norm_num
  have h2 : stampSeconds 20000 = 1 / 50 := by
    rw [stampSeconds, show (20000 : U32).toNat = 20000 from rfl]
    norm_num
  have hsync := sync_of_sessionStart hst hstart
  have hbuf0 : s.sync.rbuf = List.replicate s.cfg.rateM none := by rw [hbuf, hsync, hcfg]; rfl
  have hcur0 : s.sync.rcur = 0 := by rw [hcur, hsync]; rfl
  obtain ⟨t, het, htenv, htcfg, htbuf, htcur, -⟩ := exists_emit_stamp hv hts ht
  refine ⟨t, het, htenv, fun huc hub hur huv hut => ?_⟩
  obtain ⟨x, hex, hxenv, -, hxbuf, -, hxrate⟩ := exists_emit_stamp huv (by rw [huc, htcfg, hts]) hut
  have hx : x.sync.rbuf = some (1 / 100) :: some (1 / 50) :: List.replicate (s.cfg.rateM - 2) none := by
    rw [hxbuf, hub, hur, htbuf, htcur, hbuf0, hcur0, h1, h2, rateRecord_two hm]
  refine ⟨x, hex, hxenv, hx, ?_, ?_⟩
  · rw [hx, rateSum_two]
    norm_num
  · rw [hxrate, hx, rateEstimate_two (by norm_num)]
    norm_num

end Sys2Proof.Machine
end

section
/-! Proofs of the statements about the model faults (R261) and the log of what was sent (R65): which instruction raises
which fault and when, that it writes nothing else, that no step from a state of the invariants raises one, and that the
fault mark and the log only grow. -/

namespace Sys2Proof.Machine

/-! Raising a fault (R261). -/

/-- `Raises s i f`: taken in `s`, `i` raises `f`. A request that would break R61 raises ADC_PRECONDITION, a read of a
field never written UNWRITTEN_READ. -/
inductive Raises (s : State) : Instr → Fault → Prop where
  | initCal (h : s.adc.enabled = true) : Raises s .initCal (.adcPrecondition 0x08)
  | initEn (h : s.adc.cal = true ∨ s.adc.enabled = true) : Raises s .initEn (.adcPrecondition 0x0D)
  | convStart (h : s.adc.enabled = false ∨ s.adc.rdy = false) : Raises s .convStart (.adcPrecondition 0x12)
  | txLo (h : s.seq.v = none) : Raises s .txLo (.unwrittenRead (.seq 0x22) .seqV)
  | txHi (h : s.seq.v = none) : Raises s .txHi (.unwrittenRead (.seq 0x23) .seqV)
  | txTs0 (h : s.seq.ts = none) : Raises s .txTs0 (.unwrittenRead (.seq 0x24) .seqTs)
  | txTs1 (h : s.seq.ts = none) : Raises s .txTs1 (.unwrittenRead (.seq 0x25) .seqTs)
  | txTs2 (h : s.seq.ts = none) : Raises s .txTs2 (.unwrittenRead (.seq 0x26) .seqTs)
  | txTs3 (h : s.seq.ts = none) : Raises s .txTs3 (.unwrittenRead (.seq 0x27) .seqTs)
  | emit {x : UnwrittenField} (h : emitUnwritten s = some x) : Raises s .emit (.unwrittenRead (.syncInt 8) x)

theorem sendSample_of_none {s : State} (h : s.seq.v = none) (field : U16 → Byte) (code succ : BitVec 8) :
    sendSample field code succ s = raise (.unwrittenRead (.seq code) .seqV) s := by
  simp only [sendSample, h]

theorem sendStamp_of_none {s : State} (h : s.seq.ts = none) (field : U32 → Byte) (code succ : BitVec 8) :
    sendStamp field code succ s = raise (.unwrittenRead (.seq code) .seqTs) s := by
  simp only [sendStamp, h]

theorem execEmit_of_unwritten {s : State} {x : UnwrittenField} (h : emitUnwritten s = some x) :
    execEmit s = raise (.unwrittenRead (.syncInt 8) x) s := by
  simp only [execEmit, h]

/-- Where an instruction raises a fault it does nothing else. -/
theorem Raises.exec_eq {s : State} {i : Instr} {f : Fault} (h : Raises s i f) : exec i s = raise f s := by
  cases h with
  | initCal h => exact execInitCal_fault h
  | initEn h => exact execInitEn_fault h
  | convStart h => exact execConvStart_fault h
  | txLo h | txHi h => exact sendSample_of_none h _ _ _
  | txTs0 h | txTs1 h | txTs2 h | txTs3 h => exact sendStamp_of_none h _ _ _
  | emit h => exact execEmit_of_unwritten h

/-! The fault mark. -/

/-- From `s` to `t`, by `i`, the fault mark is as it was, or has the fault that `i` raises as its newest entry. -/
def Marks (i : Instr) (s t : State) : Prop := t.faults = s.faults ∨ ∃ f, Raises s i f ∧ t.faults = s.faults ++ [f]

theorem Raises.marks {s : State} {i : Instr} {f : Fault} (h : Raises s i f) : Ensures (raise f s) (Marks i s) :=
  .raise (.inr ⟨f, h, rfl⟩)

theorem sendSample_marks {i : Instr} {s : State} {code : BitVec 8}
    (h : s.seq.v = none → Raises s i (.unwrittenRead (.seq code) .seqV)) (field : U16 → Byte) (succ : BitVec 8) :
    Ensures (sendSample field code succ s) (Marks i s) := by
  cases hv : s.seq.v with
  | none =>
    rw [sendSample_of_none hv]
    exact (h hv).marks
  | some v =>
    rw [sendSample_of_some hv]
    exact .done (.inl rfl)

theorem sendStamp_marks {i : Instr} {s : State} {code : BitVec 8}
    (h : s.seq.ts = none → Raises s i (.unwrittenRead (.seq code) .seqTs)) (field : U32 → Byte) (succ : BitVec 8) :
    Ensures (sendStamp field code succ s) (Marks i s) := by
  cases hts : s.seq.ts with
  | none =>
    rw [sendStamp_of_none hts]
    exact (h hts).marks
  | some ts =>
    rw [sendStamp_of_some hts]
    exact .done (.inl rfl)

theorem execEmit_marks (s : State) : Ensures (execEmit s) (Marks .emit s) := by
  cases hx : emitUnwritten s with
  | some x =>
    rw [execEmit_of_unwritten hx]
    exact (Raises.emit hx).marks
  | none =>
    simp only [execEmit, hx]
    exact .done (.inl s.afterInterval_faults)

/-- Only the ten instructions of `Raises` touch the fault mark, and only where they raise. -/
theorem exec_marks (i : Instr) (s : State) : Ensures (exec i s) (Marks i s) := by
  cases i with
  | initClk | initPin | initPresc | initPwr | initSettle | initMode | initSmp | initSeqlen
  | convSel | convClr | convRead | txSync1 | txEnd | delay
  | seek1Sync | seek1Discard b | seek2Sync | seek2Miss b | rs0Lo b | rs1Hi b
  | rt0B0 b | rt1B1 b | rt2B2 b | rt3B3 b => exact .done (.inl rfl)
  | initDisChk | initDisWait | initCalWait | initRdyWait | convWait =>
    exact .ite (fun _ => .done (.inl rfl)) fun _ => .done (.inl rfl)
  | initCal => exact .ite (fun h => (Raises.initCal ((calForbidden_iff _).1 h)).marks) fun _ => .done (.inl rfl)
  | initEn => exact .ite (fun h => (Raises.initEn ((enableForbidden_iff _).1 h)).marks) fun _ => .done (.inl rfl)
  | convStart => exact .ite (fun h => (Raises.convStart ((startForbidden_iff _).1 h)).marks) fun _ => .done (.inl rfl)
  | txSync0 => refine .done (.inl ?_); cases s.cfg.tsDev <;> rfl
  | txLo => exact sendSample_marks .txLo _ _
  | txHi => exact sendSample_marks .txHi _ _
  | txTs0 => exact sendStamp_marks .txTs0 _ _
  | txTs1 => exact sendStamp_marks .txTs1 _ _
  | txTs2 => exact sendStamp_marks .txTs2 _ _
  | txTs3 => exact sendStamp_marks .txTs3 _ _
  | emit => exact execEmit_marks s
  | ended => exact .hold (.inl rfl)
  | eosEnd _ | adcDisDone | adcCalDone | adcReady | adcConvDone | resetWarm | sessionStart =>
    exact .ite (fun _ => .done (.inl rfl)) fun _ => .hold (.inl rfl)
  | linkDeliver => exact .linkDeliver (fun _ => .inl rfl) (.inl rfl)
  | linkDrop | linkCorrupt | linkInsert | linkClose | hostStop =>
    exact .ite (fun _ => .hold (.inl rfl)) fun _ => .done (.inl rfl)
  | resetPor => refine .done (.inl ?_); cases s.started <;> rfl

/-! No fault is reachable. -/

/-- EMIT finds written what it reads (R67). -/
theorem emitUnwritten_eq_none {s : State} (hinv : SyncInv s) (hst : s.sync.st = 8) : emitUnwritten s = none := by
  have hst : s.sync.st.toNat = 8 := by rw [hst]; rfl
  have hs := hinv.sample (by omega) (by omega)
  have ht := hinv.stamp (by omega) (by omega)
  unfold emitUnwritten
  rw [if_neg (by simpa [Option.isSome_iff_ne_none] using hs), if_neg]
  simpa [Option.isSome_iff_ne_none] using ht

/-- What SEQ sends of the sample has been read (R33). -/
theorem SeqInv.v_ne_none {s : State} (hinv : SeqInv s) (hpc : 0x20 ≤ s.seq.pc.toNat) : s.seq.v ≠ none :=
  Option.isSome_iff_ne_none.1 (hinv.vWritten hpc)

/-- What SEQ sends of the timestamp has been captured (R34): SEQ stands at TX_TS0 to TX_TS3 in timestamp mode only. -/
theorem SeqInv.ts_ne_none {s : State} (hinv : SeqInv s) (hlo : 0x24 ≤ s.seq.pc.toNat)
    (hhi : s.seq.pc.toNat ≤ 0x27) : s.seq.ts ≠ none :=
  Option.isSome_iff_ne_none.1 (hinv.stamped (by omega) (by omega) (hinv.tsMode hlo hhi))

/-- In a state of the invariants no instruction raises a fault where it is fetched. -/
theorem not_raises {s : State} {i : Instr} (hdev : DeviceInv s) (hseq : SeqInv s) (hsync : SyncInv s) (hat : At i s)
    (f : Fault) : ¬ Raises s i f := by
  intro h
  cases h with
  | initCal hen =>
    have hpc : s.seq.pc.toNat = 0x08 := congrArg BitVec.toNat hat
    obtain ⟨hoff, -⟩ := hdev.idle (by omega) (by omega)
    simp [hoff] at hen
  | initEn hbusy =>
    have hpc : s.seq.pc.toNat = 0x0D := congrArg BitVec.toNat hat
    obtain ⟨hoff, -⟩ := hdev.idle (by omega) (by omega)
    have hcal := hdev.calOff (by omega)
    simp [hoff, hcal] at hbusy
  | convStart hidle =>
    have hpc : s.seq.pc.toNat = 0x12 := congrArg BitVec.toNat hat
    obtain ⟨hen, hrdy⟩ := hdev.running (by omega)
    simp [hen, hrdy] at hidle
  | txLo hv | txHi hv =>
    have hpc := congrArg BitVec.toNat (show s.seq.pc = _ from hat)
    exact hseq.v_ne_none (by simp [hpc]) hv
  | txTs0 hts | txTs1 hts | txTs2 hts | txTs3 hts =>
    have hpc := congrArg BitVec.toNat (show s.seq.pc = _ from hat)
    exact hseq.ts_ne_none (by simp [hpc]) (by simp [hpc]) hts
  | emit hx => simp [emitUnwritten_eq_none hsync hat] at hx

/-- What a step does to the fault mark. -/
theorem step_marks {s t : State} (h : step s = .next t) :
    t.faults = s.faults ∨ ∃ i f, At i s.afterPick ∧ Raises s.afterPick i f ∧ t.faults = s.faults ++ [f] := by
  obtain ⟨-, ⟨-, -, rfl⟩ | ⟨-, i, hd, he⟩⟩ := step_next h
  · exact .inl rfl
  · obtain hsame | ⟨f, hf, hmark⟩ := exec_marks i s.afterPick t he
    · exact .inl hsame
    · exact .inr ⟨i, f, at_of_fetch ((fetch_afterPick s _).symm ▸ hd), hf, hmark⟩

/-- Settles O56: an entry of the fault mark is of a fault raised, and none is raised in a state of the invariants. -/
theorem noFaultIsReachable : Obligations.NoFaultIsReachable := by
  intro s t hdev hseq hsync h
  obtain hsame | ⟨i, f, hat, hf, -⟩ := step_marks h
  · exact hsame
  · exact absurd hf (not_raises (s := s.afterPick) { hdev with } { hseq with } { hsync with } hat f)

/-- Settles O21: the seven reads raise their fault where the field is unwritten, and raising writes nothing else. -/
theorem unwrittenReadsAreFaults : Obligations.UnwrittenReadsAreFaults := by
  refine fun s => ⟨fun hv => ?sample, fun hts => ?stamp, fun hs => ?accS, fun hs hts ht => ?accT⟩
  case sample =>
    simp only [List.forall_mem_cons]
    exact ⟨(Raises.txLo hv).exec_eq, (Raises.txHi hv).exec_eq, nofun⟩
  case stamp =>
    simp only [List.forall_mem_cons]
    exact ⟨(Raises.txTs0 hts).exec_eq, (Raises.txTs1 hts).exec_eq, (Raises.txTs2 hts).exec_eq,
      (Raises.txTs3 hts).exec_eq, nofun⟩
  case accS => exact (Raises.emit (by simp [emitUnwritten, hs])).exec_eq
  case accT => exact (Raises.emit (by simp [emitUnwritten, hs, hts, ht])).exec_eq

/-! The log of what was sent (R65). -/

/-- Once the device is powered on no event writes the log. -/
theorem exec_event_sent {e : Event} {s : State} (hs : s.started = true) :
    Ensures (exec (eventInstr e) s) fun t => t.link.sent = s.link.sent := by
  cases e with
  | linkDeliver | linkDrop | linkCorrupt | linkInsert | linkClose => exact exec_frame_sent (.inl rfl) s
  | hostStop | sessionStart => exact exec_frame_sent (.inr rfl) s
  | adcDisDone | adcCalDone | adcReady | adcConvDone | resetPor | resetWarm =>
    intro t ht
    obtain ⟨-, hsent⟩ := exec_keepsBytes_event hs (by simp) (by simp) (by simp) (by simp) t ht
    simpa using hsent

/-- After the first power-on the log grows by what SEQ sends and is written by nothing else. -/
theorem step_sent {s t : State} (hs : s.started = true) (h : step s = .next t) : s.link.sent <+: t.link.sent := by
  obtain ⟨-, ⟨-, -, rfl⟩ | ⟨-, i, hd, he⟩⟩ := step_next h
  · exact List.prefix_rfl
  cases hp : s.pick with
  | seq =>
    rw [hp] at hd
    obtain ⟨sent, ⟨-, hsent⟩, -⟩ := exec_sends (encode_of_decode hd).2 s.afterPick t he
    exact ⟨sent, hsent.symm⟩
  | sync =>
    rw [hp] at hd
    obtain ⟨-, -, -, hlink, -⟩ := exec_frame_sync (agent_of_fetch_sync hd) s.afterPick t he
    rw [hlink]
    exact List.prefix_rfl
  | evt e =>
    obtain rfl : eventInstr e = i := by simpa [hp, State.fetch] using hd
    rw [exec_event_sent (s := s.afterPick) hs t he]
    exact List.prefix_rfl

/-- Settles O48: the mark grows by a fault raised, the log by a byte sent. -/
theorem marksAndLogsOnlyGrow : Obligations.MarksAndLogsOnlyGrow := by
  refine fun s t h => ⟨?_, fun hs => ⟨step_sent hs h, step_started hs h⟩⟩
  obtain hsame | ⟨-, f, -, -, hmark⟩ := step_marks h
  · rw [hsame]
  · exact ⟨[f], hmark.symm⟩

end Sys2Proof.Machine
end

section
/-! Proof of the statement about how a session ends (R212, R220, R230, R268). -/

namespace Sys2Proof.Machine

/-- `EndsSession s i`: taken in `s`, `i` ends the session, by a stop request or by the end of the stream. -/
inductive EndsSession (s : State) : Instr → Prop where
  | stop (h : s.sync.stop = true) : EndsSession s .emit
  | eos {st : BitVec 3} (h : s.eosEnabled = true) : EndsSession s (.eosEnd st)

/-- If `t` is in ENDED, `s` was, or `i` has ended the session. -/
def EndedBy (i : Instr) (s t : State) : Prop := t.sync.st = 9 → s.sync.st = 9 ∨ EndsSession s i

theorem EndedBy.of_eq {i : Instr} {s t : State} (h : t.sync.st = s.sync.st) : EndedBy i s t :=
  fun ht => .inl (h ▸ ht)

theorem EndedBy.of_ne {i : Instr} {s t : State} (h : t.sync.st ≠ 9) : EndedBy i s t :=
  fun ht => absurd ht h

/-- SYNC's instructions: the tokens enter other states, EMIT and EOS_END enter ENDED by their rules. -/
theorem exec_endedBy_sync {i : Instr} (hi : i.agent = .sync) (s : State) : Ensures (exec i s) (EndedBy i s) := by
  cases i with
  | seek1Sync | seek1Discard b | seek2Sync | rs0Lo b | rt0B0 b | rt1B1 b | rt2B2 b | rt3B3 b =>
    exact .done (.of_ne (by simp))
  | seek2Miss b =>
    refine .done (.of_ne ?_)
    by_cases hb : b = marker <;> simp [hb]
  | rs1Hi b =>
    refine .done (.of_ne ?_)
    cases s.cfg.tsHost <;> simp
  | emit =>
    refine .emit (fun v _ => ?_) fun _ => .of_eq rfl
    cases hstop : s.sync.stop with
    | true => exact fun _ => .inr (.stop hstop)
    | false => exact .of_ne (by simp [emitted, hstop])
  | eosEnd st => exact .ite (fun h => .done fun _ => .inr (.eos h)) fun _ => .hold (.of_eq rfl)
  | ended => exact .hold (.of_eq rfl)
  | _ => cases hi

/-- LINK and HOST leave SYNC where it stands, or start a session. -/
theorem exec_endedBy_linkHost {i : Instr} (hi : i.agent = .link ∨ i.agent = .host) (s : State) :
    Ensures (exec i s) (EndedBy i s) := by
  cases i with
  | linkDeliver => exact .linkDeliver (fun _ => .of_eq rfl) (.of_eq rfl)
  | linkDrop | linkCorrupt | linkInsert | linkClose | hostStop =>
    exact .ite (fun _ => .hold (.of_eq rfl)) fun _ => .done (.of_eq rfl)
  | sessionStart =>
    exact .ite (fun _ => .done (.of_ne (by simp [Sync.sessionStart]))) fun _ => .hold (.of_eq rfl)
  | _ => cases hi <;> contradiction

theorem exec_endedBy (i : Instr) (s : State) : Ensures (exec i s) (EndedBy i s) := by
  rcases agent_cases i with hi | hi | hi
  · exact fun t ht => .of_eq (exec_sameSync_device hi s t ht ▸ rfl)
  · exact exec_endedBy_sync hi s
  · exact exec_endedBy_linkHost hi s

/-- A step without a byte is SYNC's, fetched in its state (R109). -/
theorem of_fetch_eq_syncInt {p : Pick} {s : State} {c : BitVec 4} (h : s.fetch p = .syncInt c) :
    p = .sync ∧ s.sync.st = c := by
  cases p with
  | seq | evt e => cases h
  | sync =>
    obtain hint | ⟨b, bs, -, htok⟩ := fetch_sync_cases s
    · exact ⟨rfl, Code.syncInt.inj (hint.symm.trans h)⟩
    · cases htok.symm.trans h

/-- Settles O46: what enters ENDED is EMIT or EOS_END, each fetched by SYNC's pick alone. -/
theorem sessionEndsOnlyByEosOrStop : Obligations.SessionEndsOnlyByEosOrStop := by
  intro s t h hs ht
  obtain ⟨-, ⟨-, -, rfl⟩ | ⟨-, i, hd, he⟩⟩ := step_next h
  · exact absurd ht hs
  obtain ⟨-, hcode⟩ := encode_of_decode hd
  cases (exec_endedBy i s.afterPick t he ht).resolve_left hs with
  | stop hstop =>
    obtain ⟨hp, hst⟩ := of_fetch_eq_syncInt hcode.symm
    exact ⟨hp, .inl ⟨hst, hstop⟩⟩
  | eos heos =>
    obtain ⟨hp, -⟩ := of_fetch_eq_syncInt hcode.symm
    exact ⟨hp, .inr ((eosEnabled_iff s.afterPick).1 heos)⟩

end Sys2Proof.Machine
end

section
/-! Proof of the statement about the states outside the model (R8, R111, R262). -/

namespace Sys2Proof.Machine

/-! The reasons (R262, log 10). -/

/-- A clause of R8, of a configuration. -/
def ClauseHolds (c : Config) : Clause → Prop
  | .resLow => 1 ≤ c.res
  | .resHigh => c.res ≤ 16
  | .histN => 1 ≤ c.histN
  | .rateM => 1 ≤ c.rateM
  | .fs => 0 < c.fs
  | .settle => c.tRegMin ≤ c.tSettle
  | .delay => c.tConvMin ≤ c.tDelay

/-- The clause named is broken. -/
theorem not_clauseHolds_of_brokenClause {c : Config} {k : Clause} (h : brokenClause c = some k) :
    ¬ ClauseHolds c k := by
  unfold brokenClause at h
  split_ifs at h <;> cases h <;> assumption

/-- BAD_CONFIG comes before the other reasons. -/
theorem outside_eq_badConfig_iff (s : State) (k : Clause) :
    s.outside = some (.badConfig k) ↔ brokenClause s.cfg = some k := by
  unfold State.outside
  cases brokenClause s.cfg with
  | some c => simp
  | none =>
    simp only [reduceCtorEq, iff_false]
    split_ifs <;> simp

/-- With a well-formed configuration the reasons are the unlisted states, SEQ's before SYNC's. -/
theorem outside_of_wf {s : State} (h : s.cfg.Wf) : s.outside =
    if listedPc s.seq.pc = false then some (.badState .seq s.seq.pc)
    else if listedSt s.sync.st = false then some (.badState .sync (s.sync.st.setWidth 8))
    else none := by
  simp only [State.outside, (brokenClause_eq_none_iff _).2 h]

/-- The listed sequencer states are those that decode (R105). -/
theorem listedPc_iff (c : BitVec 8) : listedPc c = true ↔ ∃ i, decodeSeq c = .ok i := by
  refine ⟨decodeSeq_of_listed, fun ⟨i, hi⟩ => ?_⟩
  by_contra hc
  cases hi.symm.trans (decodeSeq_of_unlisted (eq_false_of_ne_true hc))

/-- The listed SYNC states (R106). -/
theorem listedSt_iff (c : BitVec 4) : listedSt c = true ↔ c.toNat ≤ 9 :=
  decide_eq_true_iff.trans Nat.lt_succ_iff

/-! What is fetched in a state of the model. -/

/-- A token of a byte-consuming state decodes (R107). -/
theorem decodeTok_of_consuming {st : BitVec 4} (h : st.toNat < 8) (b : Byte) :
    ∃ i, decodeTok (tokenOf st b) = .ok i := by
  have hst : (tokenOf st b).toNat / 256 % 16 = st.toNat := by
    rw [← congrArg BitVec.toNat (extractLsb'_tokenOf st b), BitVec.extractLsb'_toNat, Nat.shiftRight_eq_div_pow]
  have hlt : (tokenOf st b).toNat < 4096 := (tokenOf st b).isLt
  exact (decodeTok_ok_iff _).2 (by omega)

/-- In a state of the model every pick fetches an instruction. -/
theorem exists_decode_fetch {s : State} (h : s.outside = none) (p : Pick) : ∃ i, decode (s.fetch p) = .ok i := by
  obtain ⟨-, hpc, hst⟩ := (outside_eq_none_iff s).1 h
  cases p with
  | seq => exact decodeSeq_of_listed hpc
  | sync =>
    by_cases hb : s.sync.rxq = [] ∨ 8 ≤ s.sync.st.toNat
    · rw [fetch_sync_without_byte hb]
      exact (decodeSyncInt_ok_iff _).2 ((listedSt_iff _).1 hst)
    · obtain ⟨hq, hst⟩ := not_or.1 hb
      obtain ⟨b, bs, hq⟩ := List.exists_cons_of_ne_nil hq
      rw [fetch_sync_consuming hq (by omega)]
      exact decodeTok_of_consuming (by omega) b
  | evt e => exact ⟨_, decode_event_code e⟩

/-- In a state of the model a pick holds or runs an instruction: it is not refused. -/
theorem runPick_ne_refused {s : State} (h : s.outside = none) (p : Pick) (r : Refusal) :
    runPick p s ≠ .refused r := by
  obtain ⟨i, hi⟩ := exists_decode_fetch h p
  obtain ⟨t, ht⟩ := (exec_ends i s).next
  unfold runPick
  split
  · exact nofun
  · simp [hi, ht]

theorem step_eq_refused_iff (s : State) (r : Refusal) : step s = .refused r ↔ s.outside = some r := by
  cases ho : s.outside with
  | some r' => simp [step, ho]
  | none =>
    rw [step_of_inside ho]
    exact iff_of_false (runPick_ne_refused (s := s.afterPick) ho _ r) nofun

/-- Settles O7: a state of the model has every pick's instruction, and the reasons are tried in their order. -/
theorem refusedExactlyOutsideTheModel : Obligations.RefusedExactlyOutsideTheModel := by
  refine ⟨step_eq_refused_iff, fun s => ?badConfig, fun s k hk => ?clause, fun s hwf hpc => ?badPc,
    fun s hwf hpc hst => ?badSt, fun s hwf hpc hst => ?inside⟩
  case badConfig =>
    simp only [outside_eq_badConfig_iff, ← Option.ne_none_iff_exists', ne_eq, brokenClause_eq_none_iff]
  case clause =>
    have hbroken := not_clauseHolds_of_brokenClause ((outside_eq_badConfig_iff s k).1 hk)
    cases k <;> exact hbroken
  case badPc =>
    have hunlisted := mt (listedPc_iff s.seq.pc).1 hpc
    rw [outside_of_wf hwf, if_pos (eq_false_of_ne_true hunlisted)]
  case badSt =>
    have hunlisted := mt (listedSt_iff s.sync.st).1 (by omega)
    rw [outside_of_wf hwf, if_neg (by simp [(listedPc_iff _).2 hpc]), if_pos (eq_false_of_ne_true hunlisted),
      BitVec.ofNat_toNat]
  case inside =>
    exact (outside_eq_none_iff s).2 ⟨hwf, (listedPc_iff _).2 hpc, (listedSt_iff _).2 hst⟩

end Sys2Proof.Machine
end

section
/-! Proofs of the statements about the resets (R300, R301) and about the start of a run (R303 to R305). -/

namespace Sys2Proof.Machine

/-! The resets (R300, R301). -/

/-- The converter a power-on takes over satisfies R61 (R39). -/
theorem powerUp_consistent (s : State) : s.powerUp.adc.consistent = true :=
  (powerUpDrawIsLegal.1 s).1.1

/-- A legal draw is taken as it stands (log 2). -/
theorem powerUp_of_legal {s : State} {p : PowerUp} {ps : List PowerUp} (hp : s.env.power = p :: ps)
    (hl : p.adc.legal) : s.powerUp.tLast = p.tLast ∧ s.powerUp.adc = p.adc := by
  obtain ⟨-, hdrawn, -⟩ := powerUpDrawIsLegal.1 s
  obtain ⟨htl, hadc⟩ := hdrawn p ps hp
  exact ⟨htl, hadc hl⟩

/-- RESET_POR is enabled in every state; its one test is whether the link is to be emptied (R78, log 20). -/
theorem execResetPor_eq (s : State) :
    execResetPor s = .next { s with
      seq := { pc := 0x01, v := none, ts := none, tLast := s.powerUp.tLast, diagConv := false, diagTx := false }
      adc := s.powerUp.adc
      link := if s.started = true then s.link else firstLink
      env.power := s.env.power.tail, env.tick := s.env.tick + 1
      started := true
      last := .next } := by
  unfold execResetPor
  cases s.started
  case false => rfl
  case true => rfl

theorem execResetWarm_of_started {s : State} (h : s.started = true) :
    execResetWarm s = done (s.withSeq { s.seq with pc := 0x01, diagConv := false, diagTx := false }) :=
  if_pos h

/-- Settles O41: RESET_POR takes over the restricted draw, and RESET_WARM tests its enabling condition. -/
theorem deviceResets : Obligations.DeviceResets :=
  fun s => ⟨⟨s.powerUp.tLast, s.powerUp.adc, powerUp_consistent s, fun _ _ => powerUp_of_legal, execResetPor_eq s⟩,
    execResetWarm_of_started⟩

/-! The start of a run (R303 to R305). -/

/-- The x-axis of a session's start holds `xStart` of each index (R236). -/
theorem getElem?_sessionStart_histX {c : Config} {i : Nat} (h : i < c.histN) :
    (Sync.sessionStart c).histX[i]? = some (xStart c i) := by
  simp [Sync.sessionStart, h]

theorem reference_wf : Config.reference.Wf := by decide

/-- Settles O49: SYNC's buffers are those of a session's start; every other value stands in `State.reset`. -/
theorem resetValues : Obligations.ResetValues := by
  obtain ⟨-, -, hn, hm, -⟩ := reference_wf
  have hbuf := sessionStart_buffers hn hm
  exact ⟨rfl, rfl, rfl, rfl, rfl, rfl, rfl, rfl, rfl, rfl, rfl, rfl,
    fun _ => List.eq_of_mem_replicate, hbuf.sizeY, fun _ => getElem?_sessionStart_histX, hbuf.sizeX,
    fun _ => List.eq_of_mem_replicate, hbuf.sizeR, rfl, rfl, rfl, rfl, rfl, reference_wf⟩

end Sys2Proof.Machine
end

section
/-! Proofs of the statements about a code word placed by the interface (log 17), the picks before the first power-on
(R300, log 13), bytes written into an unwritten accumulator (log 14), and the invariants at reset (R300, R303, R304). -/

namespace Sys2Proof.Machine

/-! A placed code word (log 17). -/

/-- In `s`, a state of the model, the next step fetches the code word `c` and no power-on is missing to run it. -/
structure FetchesNext (c : Code) (s : State) : Prop where
  inside  : s.outside = none
  powered : devicePick s.pick = true → s.started = true
  fetched : s.fetch s.pick = c

theorem FetchesNext.step_eq {c : Code} {s : State} {i : Instr} (h : FetchesNext c s) (hd : decode c = .ok i) :
    step s = exec i s.afterPick := by
  rw [step_of_inside h.inside]
  exact runPick_of_decode (s := s.afterPick) h.powered (by rw [fetch_afterPick, h.fetched, hd])

/-- A listed sequencer state may be placed in any state of the model: the power-on is placed with it. -/
theorem fetchesNext_place_seq {s : State} {c : BitVec 8} (ho : s.outside = none) (hc : listedPc c = true) :
    FetchesNext (.seq c) (s.place (.seq c)) := by
  obtain ⟨hwf, -, hst⟩ := (outside_eq_none_iff s).1 ho
  exact ⟨(outside_eq_none_iff _).2 ⟨hwf, hc, hst⟩, fun _ => rfl, rfl⟩

/-- The state bits of a word of the token table are those of a byte-consuming state (R106, R107). -/
theorem extractLsb'_lt_of_token {t : BitVec 12} (h : t.toNat < 0x800) : (t.extractLsb' 8 4).toNat < 8 := by
  rw [BitVec.extractLsb'_toNat, Nat.shiftRight_eq_div_pow]
  omega

/-- A token of a byte-consuming state is fetched from that state and the byte put at the head of the queue. -/
theorem fetchesNext_place_tok {s : State} {t : BitVec 12} (ho : s.outside = none) (ht : t.toNat < 0x800) :
    FetchesNext (.tok t) (s.place (.tok t)) := by
  obtain ⟨hwf, hpc, -⟩ := (outside_eq_none_iff s).1 ho
  have hst := extractLsb'_lt_of_token ht
  refine ⟨(outside_eq_none_iff _).2 ⟨hwf, hpc, (listedSt_iff (t.extractLsb' 8 4)).2 (by omega)⟩, nofun, ?_⟩
  calc (s.place (.tok t)).fetch .sync
    _ = .tok (tokenOf (t.extractLsb' 8 4) (t.extractLsb' 0 8)) := fetch_sync_consuming rfl hst
    _ = .tok t := by rw [tokenOf_extractLsb']

/-- A listed SYNC state is fetched as its own code: in a byte-consuming state no byte is left to consume. -/
theorem fetchesNext_place_syncInt {s : State} {c : BitVec 4} (ho : s.outside = none) (hc : c.toNat ≤ 9) :
    FetchesNext (.syncInt c) (s.place (.syncInt c)) := by
  obtain ⟨hwf, hpc, -⟩ := (outside_eq_none_iff s).1 ho
  have hst : (s.place (.syncInt c)).sync.st = c := by
    simp only [State.place, State.withEnv_sync, State.withSync_sync]
    split <;> rfl
  have hbyte : (s.place (.syncInt c)).sync.rxq = [] ∨ 8 ≤ (s.place (.syncInt c)).sync.st.toNat := by
    by_cases hcons : consuming c = true
    · exact .inl (by simp [State.place, hcons])
    · rw [consuming_iff] at hcons
      exact .inr (by rw [hst]; omega)
  refine ⟨(outside_eq_none_iff _).2 ⟨hwf, hpc, by rw [hst]; exact (listedSt_iff c).2 hc⟩, nofun, ?_⟩
  exact (fetch_sync_without_byte hbyte).trans (congrArg Code.syncInt hst)

theorem place_event (s : State) (e : Event) : s.place (.evt e.code) =
    { s.withEnv { s.env with picks := .evt e :: s.env.picks } with started := s.started || devicePick (.evt e) } := by
  simp only [State.place, eventOfCode_code]

/-- An event is fetched by its own pick; with one of the converter's the power-on is placed. -/
theorem fetchesNext_place_event {s : State} (ho : s.outside = none) (e : Event) :
    FetchesNext (.evt e.code) (s.place (.evt e.code)) := by
  rw [place_event]
  exact ⟨ho, fun hdev => Bool.or_eq_true_iff.2 (.inr hdev), rfl⟩

/-- The codes that decode are those of the events (R110). -/
theorem exists_event_of_decodeEvt {c : BitVec 8} {i : Instr} (h : decodeEvt c = .ok i) : ∃ e : Event, e.code = c := by
  have hrows : ∀ r ∈ evtTable, ∃ e ∈ eventOfCode r.1, e.code = r.1 := by decide
  obtain ⟨e, -, he⟩ := hrows _ (decodeEvt_mem h)
  exact ⟨e, he⟩

/-- A decodable code word is what the next step fetches where it is placed. -/
theorem fetchesNext_place {s : State} {c : Code} {i : Instr} (ho : s.outside = none) (hd : decode c = .ok i) :
    FetchesNext c (s.place c) := by
  cases c with
  | seq c => exact fetchesNext_place_seq ho ((listedPc_iff c).2 ⟨i, hd⟩)
  | tok t => exact fetchesNext_place_tok ho ((decodeTok_ok_iff t).1 ⟨i, hd⟩)
  | syncInt c => exact fetchesNext_place_syncInt ho ((decodeSyncInt_ok_iff c).1 ⟨i, hd⟩)
  | evt c =>
    obtain ⟨e, rfl⟩ := exists_event_of_decodeEvt hd
    exact fetchesNext_place_event ho e

/-- Settles O9: the placed word is fetched, and what is fetched is run. -/
theorem placedWordIsTheNextInstruction : Obligations.PlacedWordIsTheNextInstruction :=
  fun _ _ _ ho hd => (fetchesNext_place ho hd).step_eq hd

/-! Before the first power-on (R300, log 13). -/

theorem runPick_of_not_started {p : Pick} {s : State} (hp : devicePick p = true) (hs : s.started = false) :
    runPick p s = hold (pickAgent p) s :=
  if_pos (by simp [hp, hs])

theorem step_of_not_started {s : State} (ho : s.outside = none) (hs : s.started = false)
    (hp : devicePick s.pick = true) : step s = hold (pickAgent s.pick) s.afterPick :=
  (step_of_inside ho).trans (runPick_of_not_started hp hs)

/-- Settles O6: the five picks are the device's, SEQ's and the converter's four. -/
theorem deviceHoldsBeforeFirstPowerOn : Obligations.DeviceHoldsBeforeFirstPowerOn := by
  refine fun s ho hs => ⟨fun hp => ?seq, fun hp => ?adc⟩
  case seq => rw [step_of_not_started ho hs (by rw [hp]; rfl), hp, hold_eq, pickAgent]
  case adc =>
    have hadc : devicePick s.pick = true ∧ pickAgent s.pick = .adc := by
      rcases hp with hp | hp | hp | hp <;> rw [hp] <;> exact ⟨rfl, rfl⟩
    obtain ⟨hdev, hagent⟩ := hadc
    rw [step_of_not_started ho hs hdev, hagent, hold_eq]

/-! A byte written into an unwritten accumulator (R207, R209 to R211, log 14). -/

theorem State.putSample_self {s : State} {v : Option U16} (h : s.sync.accS = v) : s.putSample v = s := by
  subst h
  rfl

theorem State.putStamp_self {s : State} {t : Option U32} (h : s.sync.accT = t) : s.putStamp t = s := by
  subst h
  rfl

theorem execRs1Hi_of_none {s : State} (h : s.sync.accS = none) (b : Byte) :
    execRs1Hi b s = done (s.recv.enter (if s.cfg.tsHost then 4 else 8)) := by
  rw [execRs1Hi, h, Option.map_none, State.putSample_self (s := s.recv) h]

theorem execRt1B1_of_none {s : State} (h : s.sync.accT = none) (b : Byte) :
    execRt1B1 b s = done (s.recv.enter 6) := by
  rw [execRt1B1, h, Option.map_none, State.putStamp_self (s := s.recv) h]

theorem execRt2B2_of_none {s : State} (h : s.sync.accT = none) (b : Byte) :
    execRt2B2 b s = done (s.recv.enter 7) := by
  rw [execRt2B2, h, Option.map_none, State.putStamp_self (s := s.recv) h]

theorem execRt3B3_of_none {s : State} (h : s.sync.accT = none) (b : Byte) :
    execRt3B3 b s = done (s.recv.enter 8) := by
  rw [execRt3B3, h, Option.map_none, State.putStamp_self (s := s.recv) h]

/-- Settles O27: with nothing in the accumulator each step only consumes its byte and goes on. -/
theorem partWrittenAccumulatorStaysUnwritten : Obligations.PartWrittenAccumulatorStaysUnwritten := by
  refine fun s b => ⟨fun hv => execRs1Hi_of_none hv b, fun ht => ?_⟩
  simp only [List.forall_mem_cons]
  exact ⟨execRt1B1_of_none ht b, execRt2B2_of_none ht b, execRt3B3_of_none ht b, nofun⟩

/-! The invariants at reset (R300, R303, R304). -/

/-- The converter of the reset state satisfies R61 and its ranges. -/
theorem reset_adc_legal : State.reset.adc.legal := ⟨rfl, by decide, by decide, reset_smp_wf⟩

/-- At the entry point, with both pins low, nothing has to be written yet. -/
theorem seqInv_reset : SeqInv State.reset :=
  (seqInv_iff _).2 ⟨rfl, by simp [Registers, State.reset, Seq.reset]⟩

/-- Before the first session SYNC is in ENDED, and its buffers are those of a session's start. -/
theorem syncInv_reset : SyncInv State.reset := by
  obtain ⟨-, -, hn, hm, -⟩ := reference_wf
  have hbuf := sessionStart_buffers hn hm
  exact (syncInv_iff _).2 ⟨by simp [Framing, State.reset, Sync.preSession], { hbuf with }⟩

/-- Nothing has been sent and the link is open. -/
theorem linkInv_reset : LinkInv State.reset := ⟨rfl, List.suffix_refl _, rfl⟩

/-- Settles O50: SEQ stands at its entry point, SYNC before its first session, and the link is empty. -/
theorem invariantsAtReset : Obligations.InvariantsAtReset :=
  ⟨deviceInv_of_entry rfl reset_adc_legal, seqInv_reset, syncInv_reset, linkInv_reset⟩

end Sys2Proof.Machine
end
